-- ==== Sys2Proof/Word.lean ====
section
/-! DEFINITION. The word types of the HM4 model and the four-fold array. Bytes, tags, positions, flag
sets and raw readings are what the manual itself treats as bits; everything the manual only counts is a
natural number elsewhere. -/

namespace Sys2Proof

/-- One byte of a serial link. -/
abbrev Byte := BitVec 8

/-- A belt position, a line number or the HWM: a 32-bit count that wraps (section 0.7, R1, R8). -/
abbrev Count := BitVec 32

/-- A hide tag, 1 to 65535; tag 0 names no hide (section 0.7, R36). -/
abbrev Tag := BitVec 16

/-- A flag set or a divert mask: two bytes, one bit per flag (R204). -/
abbrev FlagSet := BitVec 16

/-- The 1024 cell readings of one line; bit i is cell i, and a bit of 1 means covered (R13, R209). -/
abbrev Readings := BitVec 1024

/-- Something the part has four of: one per lane, per stamp head or per lot slot. -/
structure Quad (α : Type) where
  e0 : α
  e1 : α
  e2 : α
  e3 : α
  deriving DecidableEq, Repr

/-- The same value in all four places. -/
def Quad.const {α : Type} (v : α) : Quad α := ⟨v, v, v, v⟩

/-- Place i. -/
def Quad.get {α : Type} (q : Quad α) (i : Fin 4) : α :=
  match i with
  | 0 => q.e0
  | 1 => q.e1
  | 2 => q.e2
  | 3 => q.e3

/-- The array with place i replaced. -/
def Quad.set {α : Type} (q : Quad α) (i : Fin 4) (v : α) : Quad α :=
  match i with
  | 0 => { q with e0 := v }
  | 1 => { q with e1 := v }
  | 2 => { q with e2 := v }
  | 3 => { q with e3 := v }

/-- Every place through one function. -/
def Quad.map {α β : Type} (f : α → β) (q : Quad α) : Quad β := ⟨f q.e0, f q.e1, f q.e2, f q.e3⟩

/-- The four places in ascending order. -/
def Quad.toList {α : Type} (q : Quad α) : List α := [q.e0, q.e1, q.e2, q.e3]

/-- The four place numbers in ascending order. -/
def fours : List (Fin 4) := [0, 1, 2, 3]

end Sys2Proof
end

