-- ==== Sys2Proof/Config.lean ====
section
/-! DEFINITION. What one HM4 fixes (the capacities the manual gives) and the free values: the points at
which the manual names several outcomes, or none, and the model takes an unknown one. A free value is an
opaque constant: no proof can see what it is, so a statement holds whatever it is. -/

namespace Sys2Proof.Config

/-- Cells across the belt (section 0.7). -/
def cells : Nat := 1024

/-- Records in the open hide table (R34). -/
def tableSize : Nat := 16

/-- Runs in the shadow run list (R37). -/
def shadowSize : Nat := 16

/-- Runs in one line's run list (R28). -/
def runsPerLine : Nat := 64

/-- Runs kept as a hide's last runs (R50). -/
def lastRunsSize : Nat := 8

/-- Indices on the mask list (R23). -/
def maskSize : Nat := 32

/-- Entries in the transit list (R124). -/
def transitSize : Nat := 24

/-- Hides in one pack (R142, R149). -/
def packSize : Nat := 999

/-- Tickets in the ticket store (R161). -/
def storeSize : Nat := 8

/-- Records in the report queue (R194). -/
def queueSize : Nat := 32

/-- Records at which levels 1 to 5 are lost (R195). -/
def queueReserve : Nat := 28

/-- Places of the receive buffer (R184). -/
def bufferSize : Nat := 2

/-- Where a counter of two bytes stops (R30, R135, R142, R183, R196, R197). -/
def counterTop : Nat := 65535

/-- FREE VALUE (log entry 1, DEDUCED). The order in which the blocks act on one HWM advance at which more than
one of them has something due; the argument counts the advances at which the order was open. The manual
lets "either be taken first" (R120, R131) and fixes no order between a line strobe, the four heads' fire
and miss positions and the drops. -/
opaque advanceOrder : Nat → Nat

/-- FREE VALUE (log entry 6, DEDUCED). Whether the Mode Controller takes the end of a calibration before the fault
request of the scan loss raised by the very line that closed the reference. The manual gives both orders
(R84, R176). -/
opaque endBeforeFault : Nat → Bool

/-- FREE VALUE (log entry 2, DESIGN CHOICE). Byte i of a link field of n bytes that is to carry a value v too large for
it. The manual gives the field's size and holds the value exactly (R61, R142); it states no bytes for a
value that does not fit. -/
opaque unfitByte : Nat → Nat → Nat → Byte

end Sys2Proof.Config
end

