-- ==== Sys2Proof/Syntax.lean ====
section
/-! DEFINITION. The commands of the HM4: one constructor per row of spec/opcode_table.json. A command is
an event at one of the part's pins or links, the expiry of one of its timers, the end of a calibration
asked for inside the part, or a host request. Every host request carries the tag of its telegram. -/

namespace Sys2Proof

/-- What a full reset follows (section 0.7): power-up, or the assertion of the reset input, which then
stays asserted until its release (R203). -/
inductive ResetCause where
  | powerUp
  | resetInput
  deriving DecidableEq, Repr

/-- The commands, in the order of the opcode table. -/
inductive Instr where
  /-- ENCODER_STEP: the encoder inputs change to the levels A = a, B = b (R1). -/
  | encoderStep (a b : Bool)
  /-- BELT_RUN_ASSERT (R10). -/
  | beltRunAssert
  /-- BELT_RUN_DEASSERT (R10). -/
  | beltRunDeassert
  /-- STALL_TIMER_EXPIRY (R11). -/
  | stallTimerExpiry
  /-- LINE_FRAME: a frame, its start byte included, arrives complete from the scan head (R13, R209). -/
  | lineFrame (frame : List Byte)
  /-- SCAN_LINK_GAP_TIMEOUT: the byte-gap timer of the scan head link reaches 5 ms (R203). -/
  | scanLinkGapTimeout
  /-- CAL_END: the end of a calibration is taken at the Mode Controller (R83, R175). -/
  | calEnd
  /-- READY: a READY frame with this tag and these CRC bytes arrives complete from a head (R109, R111). -/
  | ready (head : Fin 4) (tag : BitVec 16) (crc : BitVec 16)
  /-- DONE: a DONE frame arrives complete from a head (R109, R113). -/
  | done (head : Fin 4) (tag : BitVec 16) (crc : BitVec 16)
  /-- FAULT_FRAME: a FAULT frame arrives complete from a head (R109, R115). -/
  | faultFrame (head : Fin 4) (tag : BitVec 16) (cause : BitVec 8) (crc : BitVec 16)
  /-- HEAD_LINK_GAP_TIMEOUT: the byte-gap timer of a head link reaches 5 ms (R203). -/
  | headLinkGapTimeout (head : Fin 4)
  /-- ARM_TIMER_EXPIRY: a head's arm timer reaches 50 ms (R114). -/
  | armTimerExpiry (head : Fin 4)
  /-- PRINT_TIMER_EXPIRY: a head's print timer reaches 300 ms (R114). -/
  | printTimerExpiry (head : Fin 4)
  /-- GATE_PULSE_TIMER_EXPIRY: a lane's gate pulse timer reaches 100 ms (R134). -/
  | gatePulseTimerExpiry (lane : Fin 4)
  /-- PACK_CHANGE_TIMER_EXPIRY: a lane's pack-change timer reaches 200 ms (R150). -/
  | packChangeTimerExpiry (lane : Fin 4)
  /-- HOST_BYTE: a byte arrives on the host line, with its stop bit present or absent (R180, R182). -/
  | hostByte (byte : BitVec 8) (stopBit : Bool)
  /-- BYTE_GAP_TIMEOUT: the host byte-gap timer reaches 5 ms (R182). -/
  | byteGapTimeout
  /-- REPLY_SENT: the last byte of the reply being sent has gone out (R185). -/
  | replySent
  /-- REQUEST_UNKNOWN: a request telegram whose kind names no request (R186). -/
  | requestUnknown (tag kind : BitVec 8) (payload : List Byte)
  /-- STATUS (R191). -/
  | status (tag : BitVec 8)
  /-- SET (R187). -/
  | set (tag id : BitVec 8) (value : BitVec 32)
  /-- GET (R189). -/
  | get (tag id : BitVec 8)
  /-- WIDTHS LOAD (R19). -/
  | widthsLoad (tag : BitVec 8) (start : BitVec 16) (widths : List (BitVec 16))
  /-- WIDTHS READ (R20). -/
  | widthsRead (tag : BitVec 8) (start : BitVec 16) (count : BitVec 8)
  /-- MASK ADD (R23). -/
  | maskAdd (tag : BitVec 8) (cell : BitVec 16)
  /-- MASK DROP (R24). -/
  | maskDrop (tag : BitVec 8) (cell : BitVec 16)
  /-- MASK LIST (section 2.7). -/
  | maskList (tag : BitVec 8)
  /-- START (R170). -/
  | start (tag : BitVec 8)
  /-- PAUSE (R171). -/
  | pause (tag : BitVec 8)
  /-- RESUME (R172). -/
  | resume (tag : BitVec 8)
  /-- STOP (R173). -/
  | stop (tag : BitVec 8)
  /-- CLEAR (R174). -/
  | clear (tag : BitVec 8)
  /-- CALIB (R78). -/
  | calib (tag : BitVec 8) (aRef : BitVec 32)
  /-- FETCH (R199). -/
  | fetch (tag n : BitVec 8)
  /-- REARM (R198). -/
  | rearm (tag kind : BitVec 8)
  /-- TICKET (R162). -/
  | ticket (tag : BitVec 8)
  /-- PACK CLOSE (R152). -/
  | packClose (tag lane : BitVec 8)
  /-- PACK TARGET (R153). -/
  | packTarget (tag lane mode : BitVec 8) (value : BitVec 32)
  /-- LOT OPEN (R157). -/
  | lotOpen (tag slot : BitVec 8) (number : BitVec 32) (mask : BitVec 8)
  /-- LOT CLOSE (R158). -/
  | lotClose (tag slot : BitVec 8)
  /-- LOT READ (R160). -/
  | lotRead (tag slot : BitVec 8)
  /-- HEAD CLEAR (R117). -/
  | headClear (tag head : BitVec 8)
  /-- RESET (R192). -/
  | reset (tag : BitVec 8)
  /-- FULL_RESET: power-up or assertion of the reset input, with the level of the rate strap at that
  moment (section 0.7, R180, R203). -/
  | fullReset (cause : ResetCause) (strap : Bool)
  /-- SCAN_LINK_BYTE: a byte arrives on the scan head link (R203). -/
  | scanLinkByte (byte : BitVec 8)
  /-- HEAD_LINK_BYTE: a byte arrives on a stamp head link (R203, R209). -/
  | headLinkByte (head : Fin 4) (byte : BitVec 8)
  /-- RESET_INPUT_RELEASE: the reset input is released (R203). -/
  | resetInputRelease
  deriving DecidableEq, Repr

end Sys2Proof
end

