-- ==== Sys2Proof/WellFormed.lean ====
section
/-! DEFINITION. Which commands are well formed. Operand sizes are in the types of Sys2Proof.Instr; what is
left is that a byte sequence has the form its row speaks of. -/

namespace Sys2Proof

/-- The start byte of a frame on the scan head link (R203, R209). -/
def scanStartByte : Byte := 0x5A#8

/-- The most payload bytes of a telegram (R181). -/
def payloadLimit : Nat := 248

/-- The kinds that name a request are 01h to 18h (R205). -/
def namesRequest (kind : Byte) : Bool := 1 ≤ kind.toNat && kind.toNat ≤ 0x18

/-- The check on one command. A line frame begins with its start byte; an unknown request's kind names no
request and its payload fits a telegram; a width list fits a telegram. -/
def Instr.wf (i : Instr) : Bool :=
  match i with
  | .lineFrame frame => decide (frame.head? = some scanStartByte)
  | .requestUnknown _ kind payload => !namesRequest kind && decide (payload.length ≤ payloadLimit)
  | .widthsLoad _ _ widths => decide (3 + 2 * widths.length ≤ payloadLimit)
  | .encoderStep _ _ | .beltRunAssert | .beltRunDeassert | .stallTimerExpiry | .scanLinkGapTimeout
  | .calEnd | .ready _ _ _ | .done _ _ _ | .faultFrame _ _ _ _ | .headLinkGapTimeout _
  | .armTimerExpiry _ | .printTimerExpiry _ | .gatePulseTimerExpiry _ | .packChangeTimerExpiry _
  | .hostByte _ _ | .byteGapTimeout | .replySent | .status _ | .set _ _ _ | .get _ _
  | .widthsRead _ _ _ | .maskAdd _ _ | .maskDrop _ _ | .maskList _ | .start _ | .pause _ | .resume _
  | .stop _ | .clear _ | .calib _ _ | .fetch _ _ | .rearm _ _ | .ticket _ | .packClose _ _
  | .packTarget _ _ _ _ | .lotOpen _ _ _ _ | .lotClose _ _ | .lotRead _ _ | .headClear _ _ | .reset _
  | .fullReset _ _ | .scanLinkByte _ | .headLinkByte _ _ | .resetInputRelease => true

end Sys2Proof
end

