-- ==== Sys2Proof/Decode.lean ====
section
/-! DEFINITION. The command that a word of the opcode table spells. No row of spec/opcode_table.json gives
bits (every row's "fields" is empty and none has "fixed"): a command of this block is an event, not a coded
word, so no word spells one. The byte formats the part does decode, its telegrams and frames, are read in
Sys2Proof/Machine/Formats.lean. -/

namespace Sys2Proof

/-- The command a word of nbits bits spells by the table: none, since the table gives no row any bits. -/
def decodeTableWord (_nbits _w : Nat) : Option Instr := none

end Sys2Proof
end

