-- ==== Sys2Proof/Machine/Flags.lean ====
section
/-! DEFINITION. The hide flags and the flag sets built from them (R35, R204), and the sets of flags that
rules of the manual name. -/

namespace Sys2Proof.Machine

/-- The flags a hide can carry (R35, R204). -/
inductive Flag where
  | joined
  | edge
  | partialHide
  | long
  | cut
  | faulted
  | refCandidate
  | small
  | over
  | noSpot
  | missed
  | untracked
  | packFull
  | unlaned
  | ref
  deriving DecidableEq, Repr

/-- The bit of a flag in a flag set or divert mask (R204). -/
def Flag.bit (f : Flag) : Nat :=
  match f with
  | .joined => 0
  | .edge => 1
  | .partialHide => 2
  | .long => 3
  | .cut => 4
  | .faulted => 5
  | .refCandidate => 6
  | .small => 7
  | .over => 8
  | .noSpot => 9
  | .missed => 10
  | .untracked => 11
  | .packFull => 12
  | .unlaned => 13
  | .ref => 14

/-- The set that holds one flag. -/
def Flag.only (f : Flag) : FlagSet := 1#16 <<< f.bit

/-- The set that holds the flags listed. -/
def flagSet (fs : List Flag) : FlagSet := fs.foldl (fun acc f => acc ||| f.only) 0#16

/-- Does the set hold the flag? -/
def hasFlag (fs : FlagSet) (f : Flag) : Bool := fs.getLsbD f.bit

/-- The set with the flag added; a flag once set stays set (R35). -/
def addFlag (fs : FlagSet) (f : Flag) : FlagSet := fs ||| f.only

/-- Add the flag when the condition holds. -/
def addFlagIf (c : Bool) (fs : FlagSet) (f : Flag) : FlagSet := if c then addFlag fs f else fs

/-- Do two sets share a flag? -/
def sharesFlag (a b : FlagSet) : Bool := decide (a &&& b ≠ 0#16)

/-- The flags a divert mask may name (R133): bits 0 to 5 and 7 to 10 (R204). -/
def divertable : FlagSet :=
  flagSet [.joined, .edge, .partialHide, .long, .cut, .faulted, .small, .over, .noSpot, .missed]

/-- The reset value of every divert mask (R133, R140). -/
def resetDivertMask : FlagSet :=
  flagSet [.joined, .edge, .partialHide, .long, .cut, .faulted, .missed]

/-- The flags with which a reference fails its calibration (R80). -/
def unfitForReference : FlagSet :=
  flagSet [.joined, .edge, .partialHide, .long, .cut, .faulted]

/-- The flags that deny a hide a stamp part (R105). -/
def unfitForStamp : FlagSet := flagSet [.joined, .small, .over, .ref]

/-- The flags that keep a hide out of every lot (R155). -/
def unfitForLot : FlagSet := flagSet [.small, .ref]

end Sys2Proof.Machine
end

