-- ==== Sys2Proof/Machine/State.lean ====
section
/-! DEFINITION. The state of the HM4: one structure per block of section 0.3, the settings, the input pins,
and the queue of commands that wait. Every field is plain data. State.reset is the machine right after a
full reset. -/

namespace Sys2Proof.Machine

/-! ### Named alternatives (R208 gives their codes) -/

/-- Belt direction (R3). -/
inductive Direction where
  | forward
  | back
  deriving DecidableEq, Repr

/-- Measuring state (R168). -/
inductive Mode where
  | idle
  | run
  | pause
  | calibrate
  | fault
  deriving DecidableEq, Repr

/-- Fault cause (R168). -/
inductive FaultCause where
  | none
  | stall
  | scanLost
  deriving DecidableEq, Repr

/-- Cause of a MODE record (R178). -/
inductive ModeCause where
  | start
  | calib
  | pause
  | resume
  | stop
  | clear
  | calEnd
  | stall
  | scanLost
  deriving DecidableEq, Repr

/-- Sale unit (R67). -/
inductive SaleUnit where
  | quarterFoot
  | tenthFoot
  | decimetre
  deriving DecidableEq, Repr

/-- Rounding mode (R68). -/
inductive Rounding where
  | nearest
  | down
  deriving DecidableEq, Repr

/-- Fate at drop (section 8.4). -/
inductive Fate where
  | divert
  | scrap
  | pack
  | none
  deriving DecidableEq, Repr

/-- Stamp outcome (R120). -/
inductive StampOutcome where
  | none
  | stamped
  | fired
  | missed
  | failed
  deriving DecidableEq, Repr

/-- Head channel state (R108). -/
inductive ChannelState where
  | idle
  | arming
  | armed
  | printing
  | fault
  deriving DecidableEq, Repr

/-- Miss reason (R104). -/
inductive MissReason where
  | lateClose
  | late
  | headFault
  deriving DecidableEq, Repr

/-- Order state (R107); the miss reason is present in MISSED only (R104). -/
inductive OrderState where
  | waiting
  | arming
  | armed
  | firing
  | done
  | missed (reason : MissReason)
  | failed
  deriving DecidableEq, Repr

/-- Cause of a head fault (R116): the head's own code, or one of the two timeouts. -/
inductive HeadCause where
  | code (c : Byte)
  | timeoutArm
  | timeoutPrint
  deriving DecidableEq, Repr

/-- Effect of a head fault on the order (R116). -/
inductive HeadEffect where
  | returned
  | failed
  | detached
  | none
  deriving DecidableEq, Repr

/-- Close cause of a pack, a ticket or a PACK_WAIT record (R142, R161). -/
inductive CloseCause where
  | target
  | host
  deriving DecidableEq, Repr

/-- Pack state OPEN or WAIT (R142). -/
inductive PackState where
  | opened
  | wait
  deriving DecidableEq, Repr

/-- Lot state FREE, OPEN or CLOSING (R154). -/
inductive LotState where
  | free
  | opened
  | closing
  deriving DecidableEq, Repr

/-- Target mode (R145). -/
inductive TargetMode where
  | count
  | area
  | none
  deriving DecidableEq, Repr

/-- Cause of a CAL_RESULT record (R82). -/
inductive CalCause where
  | ok
  | range
  | flagged
  | aborted
  deriving DecidableEq, Repr

/-- The mark of a settled line (R17). -/
inductive LineMark where
  | accepted
  | held
  deriving DecidableEq, Repr

/-- Spot state (R91). -/
inductive SpotState where
  | none
  | lead
  | seek
  | streak
  | found
  deriving DecidableEq, Repr

/-- The two record kinds that have a one-shot mark (R197). -/
inductive OneShotKind where
  | tableFull
  | transitFull
  deriving DecidableEq, Repr

/-- The host line rate the strap selects (R180). -/
inductive LineRate where
  | baud115200
  | baud460800
  deriving DecidableEq, Repr

/-! ### Settings (the table of chapter 11) -/

/-- A lane window (R45, R58). -/
structure Window where
  enabled : Bool
  first   : Nat
  last    : Nat
  deriving DecidableEq, Repr

/-- A pack target (R153). -/
structure Target where
  mode  : TargetMode
  value : Nat
  deriving DecidableEq, Repr

/-- Every setting of the table of section 11.4. -/
structure Settings where
  encoderStep   : Nat
  lineInterval  : Nat
  stallTime     : Nat
  badLimit      : Nat
  bridge        : Nat
  minRun        : Nat
  stuckLimit    : Nat
  autoMask      : Bool
  fill          : Nat
  closeGap      : Nat
  maxLines      : Nat
  leadIn        : Nat
  face          : Nat
  slip          : Nat
  gain          : Nat
  saleUnit      : SaleUnit
  rounding      : Rounding
  minArea       : Nat
  notice        : Nat
  attnThreshold : Nat
  window        : Quad Window
  laneHead      : Quad (Option (Fin 4))
  stamping      : Quad Bool
  dropDistance  : Quad Nat
  gatePresent   : Quad Bool
  divertMask    : Quad FlagSet
  target        : Quad Target
  footFirst     : Quad Nat
  footWidth     : Quad Nat
  headDistance  : Quad Nat
  deriving DecidableEq, Repr

/-- The reset values of the settings table (R190). -/
def Settings.reset : Settings where
  encoderStep := 250
  lineInterval := 20
  stallTime := 2000
  badLimit := 3
  bridge := 1
  minRun := 2
  stuckLimit := 6000
  autoMask := true
  fill := 6
  closeGap := 4
  maxLines := 4000
  leadIn := 50
  face := 30
  slip := 20
  gain := 100000
  saleUnit := .quarterFoot
  rounding := .nearest
  minArea := 50000
  notice := 2
  attnThreshold := 0
  window := ⟨⟨true, 0, 1023⟩, ⟨false, 0, 1023⟩, ⟨false, 0, 1023⟩, ⟨false, 0, 1023⟩⟩
  laneHead := ⟨some 0, some 1, some 2, some 3⟩
  stamping := Quad.const true
  dropDistance := Quad.const 6000
  gatePresent := Quad.const false
  divertMask := Quad.const resetDivertMask
  target := Quad.const ⟨.count, 50⟩
  footFirst := Quad.const 508
  footWidth := Quad.const 8
  headDistance := Quad.const 3000

/-! ### Input pins (section 0.8) -/

/-- The levels of the input pins whose level matters after the event that changed it. -/
structure Pins where
  encoderA      : Bool
  encoderB      : Bool
  beltRun       : Bool
  resetAsserted : Bool
  deriving DecidableEq, Repr

/-! ### Travel Counter (chapter 1) -/

/-- The line grid as it is set: origin, next line number and next line position (section 1.3). -/
structure Grid where
  origin   : Count
  nextLine : Count
  nextPos  : Count
  deriving DecidableEq, Repr

/-- The Travel Counter. The stall timer is stopped (none) or runs towards the stall time that was in force
at its last start or restart (R10). -/
structure Tcu where
  position   : Count
  hwm        : Count
  direction  : Direction
  grid       : Option Grid
  stallTimer : Option Nat
  deriving DecidableEq, Repr

/-- The Travel Counter after a full reset (section 1.8). -/
def Tcu.reset : Tcu := ⟨0, 0, .forward, none, none⟩

/-! ### Scan Line Receiver (chapter 1) -/

/-- The Scan Line Receiver. The bytes of the frame being received start with its start byte; the
byte-gap timer of the link runs exactly while there are any (R203). The frames given to the link's
transmitter stand oldest first; a reset cuts them short (R203). -/
structure Slr where
  scanning    : Bool
  outstanding : Option Count
  lastGood    : Readings
  badCount    : Nat
  gathered    : List Byte
  sent        : List (List Byte)
  deriving DecidableEq, Repr

/-- The Scan Line Receiver after either reset (R16, R203). -/
def Slr.reset : Slr := ⟨false, none, 0#1024, 0, [], []⟩

/-! ### Line Conditioner (chapter 2) -/

/-- The Line Conditioner: cell widths, mask list, stuck counters, and the cells whose stuck mark is set.
The mask list and the marked cells stand in ascending order. -/
structure Lcn where
  widths   : List Nat
  mask     : List Nat
  counters : List Nat
  marked   : List Nat
  deriving DecidableEq, Repr

/-- The Line Conditioner after a full reset (section 2.9). -/
def Lcn.reset : Lcn := ⟨List.replicate 1024 3125, [], List.replicate 1024 0, []⟩

/-! ### Hide Tracker and Spot Finder (chapters 3 and 6) -/

/-- A stretch of cells, first to last (R37, R50). -/
structure Span where
  first : Nat
  last  : Nat
  deriving DecidableEq, Repr

/-- A run of the run list, with its covered width in µm (R29). -/
structure Run where
  first : Nat
  last  : Nat
  width : Nat
  deriving DecidableEq, Repr

/-- The spot part of an open hide (R91). -/
structure Spot where
  state  : SpotState
  start  : Count
  length : Nat
  deriving DecidableEq, Repr

/-- An open hide record (R35). -/
structure Hide where
  tag       : Tag
  lane      : Option (Fin 4)
  firstLine : Count
  firstPos  : Count
  lastLine  : Count
  covered   : Nat
  gap       : Nat
  widthSum  : Nat
  fillSum   : Nat
  left      : Nat
  right     : Nat
  lastRuns  : List Span
  pieces    : Nat
  flags     : FlagSet
  spot      : Spot
  deriving DecidableEq, Repr

/-- The Hide Tracker. -/
structure Htk where
  table    : List Hide
  shadow   : List Span
  nextTag  : Tag
  line     : Count
  tracking : Bool
  deriving DecidableEq, Repr

/-- The Hide Tracker after a full reset (R59). -/
def Htk.reset : Htk := ⟨[], [], 1#16, 0, false⟩

/-! ### Calibration function (chapter 5) -/

/-- The calibration request state (R77), with A_ref while WAITING. -/
inductive CalState where
  | none
  | waiting (aRef : Nat)
  | ending
  deriving DecidableEq, Repr

/-! ### Stamp Controller (chapter 7) -/

/-- A stamp part: the order for one hide (R104). -/
structure Order where
  head  : Fin 4
  fire  : Count
  slip  : Nat
  state : OrderState
  whole : Nat
  digit : Option Nat
  unit  : SaleUnit
  deriving DecidableEq, Repr

/-- A head channel (R108), with the bytes of the head frame being received and the frames given to the
head's link, oldest first. -/
structure Channel where
  state      : ChannelState
  tag        : Option Tag
  detached   : Bool
  armTimer   : Bool
  printTimer : Bool
  gathered   : List Byte
  sent       : List (List Byte)
  deriving DecidableEq, Repr

/-- A head channel after either reset (R108, R203). -/
def Channel.reset : Channel := ⟨.idle, none, false, false, false, [], []⟩

/-! ### Transit Unit (chapter 8) -/

/-- A transit entry (R125). The lot set says of each slot whether it is named. -/
structure Entry where
  tag     : Tag
  lane    : Fin 4
  flags   : FlagSet
  area    : Nat
  figure  : Nat
  unit    : SaleUnit
  length  : Nat
  width   : Nat
  fill    : Nat
  pieces  : Nat
  dropPos : Count
  lots    : Quad Bool
  stamp   : Option Order
  deriving DecidableEq, Repr

/-- The Transit Unit: the transit list in drop order, and per lane the divert gate line, its pulse timer
(running or not) and the divert count. -/
structure Tru where
  transit   : List Entry
  gateLine  : Quad Bool
  gateTimer : Quad Bool
  diverts   : Quad Nat
  deriving DecidableEq, Repr

/-- The Transit Unit after either reset (R141). -/
def Tru.reset : Tru := ⟨[], Quad.const false, Quad.const false, Quad.const 0⟩

/-! ### Tally Unit (chapter 9) -/

/-- A pack record (R142). The close cause is none while OPEN. -/
structure Pack where
  number : Nat
  hides  : Nat
  units  : Nat
  area   : Nat
  scrap  : Nat
  state  : PackState
  cause  : Option CloseCause
  deriving DecidableEq, Repr

/-- A pack that has just opened under the number given (R143). -/
def Pack.fresh (number : Nat) : Pack := ⟨number, 0, 0, 0, 0, .opened, none⟩

/-- A lot record (R154). -/
structure Lot where
  state    : LotState
  number   : Nat
  mask     : Nat
  hides    : Nat
  units    : Nat
  area     : Nat
  inFlight : Nat
  mark     : Bool
  deriving DecidableEq, Repr

/-- A FREE slot (R154). -/
def Lot.freeSlot : Lot := ⟨.free, 0, 0, 0, 0, 0, 0, false⟩

/-- Ticket kind (R161). -/
inductive TicketKind where
  | pack
  | lot
  deriving DecidableEq, Repr

/-- A ticket (R161); place is the lane of a pack ticket and the slot of a lot ticket. -/
structure Ticket where
  kind    : TicketKind
  place   : Fin 4
  number  : Nat
  hides   : Nat
  units   : Nat
  area    : Nat
  scrap   : Nat
  diverts : Nat
  cause   : CloseCause
  overrun : Bool
  deriving DecidableEq, Repr

/-- A waiter (R163): a pack by its lane, a lot by its slot. -/
inductive Waiter where
  | pack (lane : Fin 4)
  | lot (slot : Fin 4)
  deriving DecidableEq, Repr

/-- The Tally Unit: packs, lots, ticket store (oldest first), waiter list (first waiter first), and per lane
the pack-change line with its pulse timer and the pack-hold line. -/
structure Tlu where
  packs       : Quad Pack
  lots        : Quad Lot
  tickets     : List Ticket
  waiters     : List Waiter
  changeLine  : Quad Bool
  changeTimer : Quad Bool
  holdLine    : Quad Bool
  deriving DecidableEq, Repr

/-- The Tally Unit after a full reset (R167). -/
def Tlu.reset : Tlu where
  packs := Quad.const (Pack.fresh 1)
  lots := Quad.const Lot.freeSlot
  tickets := []
  waiters := []
  changeLine := Quad.const false
  changeTimer := Quad.const false
  holdLine := Quad.const false

/-! ### Mode Controller (chapter 10) -/

/-- The Mode Controller. -/
structure Mdc where
  mode  : Mode
  cause : FaultCause
  deriving DecidableEq, Repr

/-- The Mode Controller after either reset (R179). -/
def Mdc.reset : Mdc := ⟨.idle, .none⟩

/-! ### Report Queue (chapter 12) -/

/-- The fields of a hide result record (R139). A lane of NONE and an absent pack number are none. -/
structure HideReport where
  tag     : Tag
  lane    : Option (Fin 4)
  area    : Nat
  figure  : Nat
  unit    : SaleUnit
  fill    : Nat
  length  : Nat
  width   : Nat
  pieces  : Nat
  flags   : FlagSet
  fate    : Fate
  pack    : Option Nat
  lots    : Quad Bool
  outcome : StampOutcome
  deriving DecidableEq, Repr

/-- A report record: its kind with the fields of its body (R194, R207). -/
inductive Record where
  | hide (r : HideReport)
  | lineHeld (line : Count) (bad : Nat)
  | mode (old new : Mode) (cause : ModeCause) (hwm nextLine : Count) (closed : Nat)
  | cellStuck (cell : Nat) (line : Count) (counter : Nat) (masked : Bool) (listSize : Nat)
  | tableFull (line : Count) (notOpened kept : Nat)
  | transitFull (tag : Tag) (lane : Fin 4) (hwm firstDrop : Count)
  | stampMiss (tag : Tag) (lane head : Fin 4) (reason : MissReason) (before : OrderState) (fire hwm : Count)
  | headFault (head : Fin 4) (cause : HeadCause) (tag : Tag) (before : ChannelState) (effect : HeadEffect)
  | ticket (t : Ticket)
  | packWait (lane : Fin 4) (number hides units : Nat) (cause : CloseCause) (waiters : Nat)
  | calResult (cause : CalCause) (tag : Tag) (aRef aRaw : Nat) (flags : FlagSet) (oldGain newGain : Nat)
  | scanLost (line : Count) (bad : Nat)
  | stall (mode : Mode) (position hwm : Count) (stallTime : Nat)
  deriving DecidableEq, Repr

/-- A one-shot mark with its occurrence count (R197). -/
structure OneShot where
  armed : Bool
  count : Nat
  deriving DecidableEq, Repr

/-- The Report Queue. -/
structure Rpq where
  queue       : List Record
  dropCount   : Nat
  tableFull   : OneShot
  transitFull : OneShot
  attn        : Bool
  deriving DecidableEq, Repr

/-- The Report Queue after either reset (R202). -/
def Rpq.reset : Rpq := ⟨[], 0, ⟨true, 0⟩, ⟨true, 0⟩, false⟩

/-! ### Command Link (chapter 11) -/

/-- A request, as its telegram names it (R186). unknown is a kind that names no request; badFormat a kind
that does, with a payload length that does not fit it. -/
inductive Request where
  | status
  | set (id : Byte) (value : BitVec 32)
  | get (id : Byte)
  | widthsLoad (start : BitVec 16) (widths : List (BitVec 16))
  | widthsRead (start : BitVec 16) (count : Byte)
  | maskAdd (cell : BitVec 16)
  | maskDrop (cell : BitVec 16)
  | maskList
  | start
  | pause
  | resume
  | stop
  | clear
  | calib (aRef : BitVec 32)
  | fetch (n : Byte)
  | rearm (kind : Byte)
  | ticket
  | packClose (lane : Byte)
  | packTarget (lane mode : Byte) (value : BitVec 32)
  | lotOpen (slot : Byte) (number : BitVec 32) (mask : Byte)
  | lotClose (slot : Byte)
  | lotRead (slot : Byte)
  | headClear (head : Byte)
  | reset
  | unknown (kind : Byte)
  | badFormat (kind : Byte)
  deriving DecidableEq, Repr

/-- A request telegram in the receive buffer. -/
structure Telegram where
  tag     : Byte
  request : Request
  deriving DecidableEq, Repr

/-- The receiver: hunting, or gathering a telegram, with the bytes after its start byte (R182). The
byte-gap timer runs exactly while it gathers. -/
inductive Receiver where
  | hunting
  | gathering (bytes : List Byte)
  deriving DecidableEq, Repr

/-- The Command Link. The buffer holds the requests oldest first; while a reply is being sent, the oldest
is the request in hand (R184, R185). -/
structure Cml where
  receiver   : Receiver
  buffer     : List Telegram
  reply      : Option (List Byte)
  linkErrors : Nat
  lineRate   : LineRate
  deriving DecidableEq, Repr

/-- The Command Link after a full reset that sampled the strap (R180, R193). -/
def Cml.reset (strap : Bool) : Cml :=
  ⟨.hunting, [], none, 0, if strap then .baud460800 else .baud115200⟩

/-! ### The whole part -/

/-- The state of the HM4. openChoices is the model's own: it counts the moments at which the manual leaves an
order open (log entries 1 and 6). pending is the queue of commands that wait, first in, first out. -/
structure State where
  pins        : Pins
  settings    : Settings
  tcu         : Tcu
  slr         : Slr
  lcn         : Lcn
  htk         : Htk
  cal         : CalState
  stc         : Quad Channel
  tru         : Tru
  tlu         : Tlu
  mdc         : Mdc
  rpq         : Rpq
  cml         : Cml
  openChoices : Nat
  pending     : List Instr
  deriving DecidableEq, Repr

/-- The machine right after a full reset, the reset input released. The levels of the input pins (encoder
A = B = 0, belt-run deasserted, strap low) are the model's choice: they are driven from outside (log
entry 3). -/
def State.reset : State where
  pins := ⟨false, false, false, false⟩
  settings := Settings.reset
  tcu := Tcu.reset
  slr := Slr.reset
  lcn := Lcn.reset
  htk := Htk.reset
  cal := .none
  stc := Quad.const Channel.reset
  tru := Tru.reset
  tlu := Tlu.reset
  mdc := Mdc.reset
  rpq := Rpq.reset
  cml := Cml.reset false
  openChoices := 0
  pending := []

/-- The reasons to stop with a fault. There are none: the HM4 has no event after which it stops, and its own
measuring state FAULT is a state of the Mode Controller (R168), not a stop. Nobody raises a Fault. -/
inductive Fault where
  deriving DecidableEq, Repr

/-- The reasons to refuse a command. -/
inductive Refusal where
  /-- Raised by exec for a command that has no meaning yet; safe. No arm of exec raises it. -/
  | notModelled (mnemonic : String)
  deriving DecidableEq, Repr

/-- What one step answers. -/
abbrev Result := Host.Outcome State Fault Refusal

end Sys2Proof.Machine
end

