-- ==== Sys2Proof/Machine/Formats.lean ====
section
/-! DEFINITION. The byte formats of chapter 13: the CRC-16, the field encodings, the codes, the frames of the
scan head and stamp head links, the report records and tickets as FETCH and TICKET carry them, and the host
telegrams in both directions. -/

namespace Sys2Proof.Machine

/-! ### Fields and the CRC (R203) -/

/-- One step of the CRC-16 register: a bit has been brought to its top (R203). -/
def crcShift (r : BitVec 16) : BitVec 16 := if r.msb then (r <<< 1) ^^^ 0x1021#16 else r <<< 1

/-- The CRC-16 register after one byte, most significant bit first (R203). -/
def crcByte (r : BitVec 16) (b : Byte) : BitVec 16 :=
  let x := r ^^^ (b ++ 0#8)
  crcShift (crcShift (crcShift (crcShift (crcShift (crcShift (crcShift (crcShift x)))))))

/-- The CRC-16 of a byte sequence: the register starts at FFFFh and the result is not inverted (R203). -/
def crc16 (bytes : List Byte) : BitVec 16 := bytes.foldl crcByte 0xFFFF#16

/-- The high byte of a two-byte field. -/
def highByte (w : BitVec 16) : Byte := w.extractLsb' 8 8

/-- The low byte of a two-byte field. -/
def lowByte (w : BitVec 16) : Byte := w.extractLsb' 0 8

/-- A two-byte field, most significant byte first (R203). -/
def bytes16 (w : BitVec 16) : List Byte := [highByte w, lowByte w]

/-- A four-byte field, most significant byte first (R203). -/
def bytes32 (w : BitVec 32) : List Byte :=
  [w.extractLsb' 24 8, w.extractLsb' 16 8, w.extractLsb' 8 8, w.extractLsb' 0 8]

/-- The two-byte field two bytes spell (R203). -/
def word16 (a b : Byte) : BitVec 16 := a ++ b

/-- The four-byte field four bytes spell (R203). -/
def word32 (a b c d : Byte) : BitVec 32 := a ++ b ++ c ++ d

/-- The n low bytes of a number, most significant first. -/
def bigEndian (n v : Nat) : List Byte :=
  match n with
  | 0 => []
  | k + 1 => bigEndian k (v / 256) ++ [BitVec.ofNat 8 v]

/-- A field of n bytes that carries the number v, most significant byte first (R203). What the bytes of a
number too large for its field are is a free value (log entry 2). -/
def field (n v : Nat) : List Byte :=
  if v < 256 ^ n then bigEndian n v else (List.range n).map (Config.unfitByte n v)

/-- A two-byte field at the end of a frame that holds the CRC of the bytes given. -/
def crcBytes (bytes : List Byte) : List Byte := bytes16 (crc16 bytes)

/-! ### Codes (R204, R208) -/

/-- A flag or mark as one byte (R207, R208). -/
def boolCode (b : Bool) : Byte := if b then 1#8 else 0#8

/-- Measuring state (R208). -/
def Mode.code (m : Mode) : Byte :=
  match m with
  | .idle => 0#8
  | .run => 1#8
  | .pause => 2#8
  | .calibrate => 3#8
  | .fault => 4#8

/-- Fault cause (R208). -/
def FaultCause.code (c : FaultCause) : Byte :=
  match c with
  | .none => 0#8
  | .stall => 1#8
  | .scanLost => 2#8

/-- MODE cause (R208). -/
def ModeCause.code (c : ModeCause) : Byte :=
  match c with
  | .start => 0#8
  | .calib => 1#8
  | .pause => 2#8
  | .resume => 3#8
  | .stop => 4#8
  | .clear => 5#8
  | .calEnd => 6#8
  | .stall => 7#8
  | .scanLost => 8#8

/-- Direction (R208). -/
def Direction.code (d : Direction) : Byte :=
  match d with
  | .forward => 0#8
  | .back => 1#8

/-- Sale unit (R208). -/
def SaleUnit.code (u : SaleUnit) : Byte :=
  match u with
  | .quarterFoot => 0#8
  | .tenthFoot => 1#8
  | .decimetre => 2#8

/-- Rounding mode (section 11.4). -/
def Rounding.code (r : Rounding) : Byte :=
  match r with
  | .nearest => 0#8
  | .down => 1#8

/-- Target mode (R204). -/
def TargetMode.code (m : TargetMode) : Byte :=
  match m with
  | .count => 0#8
  | .area => 1#8
  | .none => 2#8

/-- Fate (R208). -/
def Fate.code (f : Fate) : Byte :=
  match f with
  | .divert => 0#8
  | .scrap => 1#8
  | .pack => 2#8
  | .none => 3#8

/-- Stamp outcome (R208). -/
def StampOutcome.code (o : StampOutcome) : Byte :=
  match o with
  | .none => 0#8
  | .stamped => 1#8
  | .fired => 2#8
  | .missed => 3#8
  | .failed => 4#8

/-- Channel state (R208). -/
def ChannelState.code (c : ChannelState) : Byte :=
  match c with
  | .idle => 0#8
  | .arming => 1#8
  | .armed => 2#8
  | .printing => 3#8
  | .fault => 4#8

/-- Miss reason (R208). -/
def MissReason.code (r : MissReason) : Byte :=
  match r with
  | .lateClose => 0#8
  | .late => 1#8
  | .headFault => 2#8

/-- Order state before a miss (R208): WAITING 0, ARMING 1. No other state precedes a miss of an order the
part can reach (log entry 9, DESIGN CHOICE). -/
def OrderState.missCode (o : OrderState) : Byte :=
  match o with
  | .waiting => 0#8
  | .arming | .armed | .firing | .done | .missed _ | .failed => 1#8

/-- HEAD_FAULT cause, two bytes (R208). -/
def HeadCause.word (c : HeadCause) : BitVec 16 :=
  match c with
  | .code b => 0#8 ++ b
  | .timeoutArm => 0x0100#16
  | .timeoutPrint => 0x0101#16

/-- HEAD_FAULT effect (R208). -/
def HeadEffect.code (e : HeadEffect) : Byte :=
  match e with
  | .returned => 0#8
  | .failed => 1#8
  | .detached => 2#8
  | .none => 3#8

/-- CAL_RESULT cause (R208). -/
def CalCause.code (c : CalCause) : Byte :=
  match c with
  | .ok => 0#8
  | .range => 1#8
  | .flagged => 2#8
  | .aborted => 3#8

/-- Ticket or PACK_WAIT cause (R208). -/
def CloseCause.code (c : CloseCause) : Byte :=
  match c with
  | .target => 0#8
  | .host => 1#8

/-- Lot state (R208). -/
def LotState.code (s : LotState) : Byte :=
  match s with
  | .free => 0#8
  | .opened => 1#8
  | .closing => 2#8

/-- Ticket kind (R207). -/
def TicketKind.code (k : TicketKind) : Byte :=
  match k with
  | .pack => 0#8
  | .lot => 1#8

/-- A lane, head or slot number as one byte. -/
def placeCode (i : Fin 4) : Byte := BitVec.ofNat 8 i.val

/-- A lane or a lane head, NONE as FFh (R204). -/
def optionalPlace (o : Option (Fin 4)) : Byte :=
  match o with
  | none => 0xFF#8
  | some i => placeCode i

/-- A lot set: bit n stands for slot n (R204). -/
def lotSetByte (q : Quad Bool) : Byte :=
  BitVec.ofNat 8 (q.e0.toNat + 2 * q.e1.toNat + 4 * q.e2.toNat + 8 * q.e3.toNat)

/-! ### Frames of the scan head link and the head links (R203, R209) -/

/-- Bytes of a line frame (R209). -/
def lineFrameSize : Nat := 132

/-- The line request for line n: 5Ah, n modulo 256, and the CRC over the line number (R209). -/
def lineRequestFrame (n : Count) : List Byte :=
  let number := n.extractLsb' 0 8
  scanStartByte :: number :: crcBytes [number]

/-- The 1024 readings that 128 cell bytes carry: cell i is bit i mod 8 of byte floor(i / 8) (R209). -/
def readingsOf (cells : List Byte) : Readings :=
  BitVec.ofNat 1024 (cells.foldr (fun b acc => b.toNat + 256 * acc) 0)

/-- The start byte of a head link frame (R209). -/
def headStartByte : Byte := 0x3C#8

/-- Kind code of READY (R209). -/
def readyKind : Byte := 0x81#8

/-- Kind code of DONE (R209). -/
def doneKind : Byte := 0x82#8

/-- Kind code of FAULT (R209). -/
def faultKind : Byte := 0x83#8

/-- A head link frame: 3Ch, kind, tag, payload, and the CRC over kind, tag and payload (R209). -/
def headFrame (kind : Byte) (tag : Tag) (payload : List Byte) : List Byte :=
  let body := kind :: (bytes16 tag ++ payload)
  headStartByte :: (body ++ crcBytes body)

/-- The CRC a head's frame must carry (R209). -/
def headCrc (kind : Byte) (tag : Tag) (payload : List Byte) : BitVec 16 :=
  crc16 (kind :: (bytes16 tag ++ payload))

/-- The ARM frame of an order: whole part, fraction digit (FFh when absent) and unit (R204, R209). -/
def armFrame (tag : Tag) (o : Order) : List Byte :=
  let digit :=
    match o.digit with
    | none => 0xFF#8
    | some d => BitVec.ofNat 8 d
  headFrame 0x01#8 tag (field 2 o.whole ++ [digit, o.unit.code])

/-- The FIRE frame (R209). -/
def fireFrame (tag : Tag) : List Byte := headFrame 0x02#8 tag []

/-! ### Report records and tickets (R207) -/

/-- A ticket, 24 bytes (R207). -/
def ticketBytes (t : Ticket) : List Byte :=
  [t.kind.code, placeCode t.place] ++ field 4 t.number ++ field 2 t.hides ++ field 4 t.units
    ++ field 6 t.area ++ field 2 t.scrap ++ field 2 t.diverts ++ [t.cause.code, boolCode t.overrun]

/-- Kind code of a record (R207). -/
def Record.code (r : Record) : Byte :=
  match r with
  | .hide _ => 0x01#8
  | .lineHeld _ _ => 0x02#8
  | .mode _ _ _ _ _ _ => 0x03#8
  | .cellStuck _ _ _ _ _ => 0x04#8
  | .tableFull _ _ _ => 0x05#8
  | .transitFull _ _ _ _ => 0x06#8
  | .stampMiss _ _ _ _ _ _ _ => 0x07#8
  | .headFault _ _ _ _ _ => 0x08#8
  | .ticket _ => 0x09#8
  | .packWait _ _ _ _ _ _ => 0x0A#8
  | .calResult _ _ _ _ _ _ _ => 0x0B#8
  | .scanLost _ _ => 0x0C#8
  | .stall _ _ _ _ => 0x0D#8

/-- Level of a record (R194): fixed by its kind, but for a HIDE record, level 1 with SMALL and else 3. -/
def Record.level (r : Record) : Nat :=
  match r with
  | .hide h => if hasFlag h.flags .small then 1 else 3
  | .lineHeld _ _ => 2
  | .mode _ _ _ _ _ _ => 4
  | .cellStuck _ _ _ _ _ => 5
  | .tableFull _ _ _ => 5
  | .transitFull _ _ _ _ => 5
  | .stampMiss _ _ _ _ _ _ _ => 5
  | .headFault _ _ _ _ _ => 6
  | .ticket _ => 6
  | .packWait _ _ _ _ _ _ => 6
  | .calResult _ _ _ _ _ _ _ => 6
  | .scanLost _ _ => 7
  | .stall _ _ _ _ => 7

/-- The body of a record (R207). -/
def Record.body (r : Record) : List Byte :=
  match r with
  | .hide h =>
      bytes16 h.tag ++ [optionalPlace h.lane] ++ field 5 h.area ++ field 2 h.figure ++ [h.unit.code]
        ++ field 5 h.fill ++ field 4 h.length ++ field 2 h.width ++ field 1 h.pieces ++ bytes16 h.flags
        ++ [h.fate.code] ++ field 2 (h.pack.getD 0) ++ [lotSetByte h.lots, h.outcome.code]
  | .lineHeld line bad => bytes32 line ++ field 1 bad
  | .mode before after cause hwm nextLine closed =>
      [before.code, after.code, cause.code] ++ bytes32 hwm ++ bytes32 nextLine ++ field 1 closed
  | .cellStuck cell line counter masked size =>
      field 2 cell ++ bytes32 line ++ field 2 counter ++ [boolCode (!masked)] ++ field 1 size
  | .tableFull line notOpened kept => bytes32 line ++ field 1 notOpened ++ field 1 kept
  | .transitFull tag lane hwm first => bytes16 tag ++ [placeCode lane] ++ bytes32 hwm ++ bytes32 first
  | .stampMiss tag lane head reason before fire hwm =>
      bytes16 tag ++ [placeCode lane, placeCode head, reason.code, before.missCode] ++ bytes32 fire
        ++ bytes32 hwm
  | .headFault head cause tag before effect =>
      [placeCode head] ++ bytes16 cause.word ++ bytes16 tag ++ [before.code, effect.code]
  | .ticket t => ticketBytes t
  | .packWait lane number hides units cause waiters =>
      [placeCode lane] ++ field 2 number ++ field 2 hides ++ field 4 units ++ [cause.code] ++ field 1 waiters
  | .calResult cause tag aRef aRaw flags oldGain newGain =>
      [cause.code] ++ bytes16 tag ++ field 4 aRef ++ field 4 aRaw ++ bytes16 flags ++ field 4 oldGain
        ++ field 4 newGain
  | .scanLost line bad => bytes32 line ++ field 1 bad
  | .stall m position hwm time => [m.code] ++ bytes32 position ++ bytes32 hwm ++ field 2 time

/-- A record in a FETCH reply: kind code, level, body length, body (R207). -/
def recordBytes (r : Record) : List Byte :=
  [r.code] ++ field 1 r.level ++ field 1 r.body.length ++ r.body

/-! ### Host telegrams (R181, R205) -/

/-- The start byte of a telegram (R181). -/
def telegramStart : Byte := 0xA5#8

/-- A telegram: start byte, length of kind, tag and payload together, kind, tag, payload, and the CRC over
length, kind, tag and payload (R181). -/
def telegramBytes (kind tag : Byte) (payload : List Byte) : List Byte :=
  let body := BitVec.ofNat 8 (payload.length + 2) :: kind :: tag :: payload
  telegramStart :: (body ++ crcBytes body)

/-- The status of a reply (R185). -/
inductive Status where
  | ok
  | busy
  | range
  | full
  | empty
  | notFound
  | unknown
  | format
  deriving DecidableEq, Repr

/-- Status codes (R205). -/
def Status.code (s : Status) : Byte :=
  match s with
  | .ok => 0x00#8
  | .busy => 0x01#8
  | .range => 0x02#8
  | .full => 0x03#8
  | .empty => 0x04#8
  | .notFound => 0x05#8
  | .unknown => 0x06#8
  | .format => 0x07#8

/-- The answer of a request's owner: a status, and the bytes that follow it (R185). -/
structure Answer where
  status : Status
  data   : List Byte
  deriving DecidableEq, Repr

/-- OK with the bytes that follow it. -/
def Answer.ok (data : List Byte) : Answer := ⟨.ok, data⟩

/-- A status other than OK ends the reply (R205). -/
def Answer.refuse (status : Status) : Answer := ⟨status, []⟩

/-- The reply to a request: its kind is the request's kind with the top bit set, its tag the request's, and
its payload begins with the status (R185). -/
def replyBytes (kind tag : Byte) (a : Answer) : List Byte :=
  telegramBytes (kind ||| 0x80#8) tag (a.status.code :: a.data)

/-- The kind code of a request (R205). -/
def Request.kind (r : Request) : Byte :=
  match r with
  | .status => 0x01#8
  | .set _ _ => 0x02#8
  | .get _ => 0x03#8
  | .widthsLoad _ _ => 0x04#8
  | .widthsRead _ _ => 0x05#8
  | .maskAdd _ => 0x06#8
  | .maskDrop _ => 0x07#8
  | .maskList => 0x08#8
  | .start => 0x09#8
  | .pause => 0x0A#8
  | .resume => 0x0B#8
  | .stop => 0x0C#8
  | .clear => 0x0D#8
  | .calib _ => 0x0E#8
  | .fetch _ => 0x0F#8
  | .ticket => 0x10#8
  | .packClose _ => 0x11#8
  | .packTarget _ _ _ => 0x12#8
  | .lotOpen _ _ _ => 0x13#8
  | .lotClose _ => 0x14#8
  | .lotRead _ => 0x15#8
  | .rearm _ => 0x16#8
  | .headClear _ => 0x17#8
  | .reset => 0x18#8
  | .unknown kind => kind
  | .badFormat kind => kind

/-- The payload of a request that names one (R205); a request that was answered by its form alone has no
layout, and none is given here. -/
def Request.payload (r : Request) : List Byte :=
  match r with
  | .set id value => id :: bytes32 value
  | .get id => [id]
  | .widthsLoad first widths =>
      bytes16 first ++ [BitVec.ofNat 8 widths.length] ++ widths.flatMap bytes16
  | .widthsRead first count => bytes16 first ++ [count]
  | .maskAdd cell => bytes16 cell
  | .maskDrop cell => bytes16 cell
  | .calib aRef => bytes32 aRef
  | .fetch n => [n]
  | .packClose lane => [lane]
  | .packTarget lane mode value => lane :: mode :: bytes32 value
  | .lotOpen slot number mask => [slot] ++ bytes32 number ++ [mask]
  | .lotClose slot => [slot]
  | .lotRead slot => [slot]
  | .rearm kind => [kind]
  | .headClear head => [head]
  | .status | .maskList | .start | .pause | .resume | .stop | .clear | .ticket | .reset
  | .unknown _ | .badFormat _ => []

/-- The two-byte fields a byte sequence spells, in order. -/
def words16 (bytes : List Byte) : List (BitVec 16) :=
  match bytes with
  | a :: b :: rest => word16 a b :: words16 rest
  | _ => []

/-- The request a telegram of this kind and payload makes (R186): unknown when the kind names no request,
badFormat when the payload length does not fit the kind. -/
def parseRequest (kind : Byte) (payload : List Byte) : Request :=
  match kind.toNat with
  | 0x01 => whenEmpty .status
  | 0x02 =>
      match payload with
      | [i, a, b, c, d] => .set i (word32 a b c d)
      | _ => .badFormat kind
  | 0x03 => whenOne .get
  | 0x04 =>
      match payload with
      | a :: b :: n :: rest =>
          if 1 ≤ n.toNat ∧ n.toNat ≤ 60 ∧ rest.length = 2 * n.toNat then
            .widthsLoad (word16 a b) (words16 rest)
          else .badFormat kind
      | _ => .badFormat kind
  | 0x05 =>
      match payload with
      | [a, b, n] => .widthsRead (word16 a b) n
      | _ => .badFormat kind
  | 0x06 => whenWord .maskAdd
  | 0x07 => whenWord .maskDrop
  | 0x08 => whenEmpty .maskList
  | 0x09 => whenEmpty .start
  | 0x0A => whenEmpty .pause
  | 0x0B => whenEmpty .resume
  | 0x0C => whenEmpty .stop
  | 0x0D => whenEmpty .clear
  | 0x0E =>
      match payload with
      | [a, b, c, d] => .calib (word32 a b c d)
      | _ => .badFormat kind
  | 0x0F => whenOne .fetch
  | 0x10 => whenEmpty .ticket
  | 0x11 => whenOne .packClose
  | 0x12 =>
      match payload with
      | [l, m, a, b, c, d] => .packTarget l m (word32 a b c d)
      | _ => .badFormat kind
  | 0x13 =>
      match payload with
      | [s, a, b, c, d, m] => .lotOpen s (word32 a b c d) m
      | _ => .badFormat kind
  | 0x14 => whenOne .lotClose
  | 0x15 => whenOne .lotRead
  | 0x16 => whenOne .rearm
  | 0x17 => whenOne .headClear
  | 0x18 => whenEmpty .reset
  | _ => .unknown kind
where
  whenEmpty (r : Request) : Request :=
    match payload with
    | [] => r
    | _ => .badFormat kind
  whenOne (f : Byte → Request) : Request :=
    match payload with
    | [a] => f a
    | _ => .badFormat kind
  whenWord (f : BitVec 16 → Request) : Request :=
    match payload with
    | [a, b] => f (word16 a b)
    | _ => .badFormat kind

end Sys2Proof.Machine
end

