-- ==== Sys2Proof/Machine/Ops.lean ====
section
/-! DEFINITION. The operations the blocks share: positions and distances, list helpers, report admission and
the one-shot marks, the frames given to a link, and the answer of a command while the reset input is
asserted. -/

namespace Sys2Proof.Machine

/-! ### Positions and distances (section 1.2) -/

/-- Position x is reached: (HWM − x) mod 2³² is less than 2³¹ (R4). -/
def reached (hwm x : Count) : Bool := decide ((hwm - x).toNat < 2 ^ 31)

/-- A distance in millimetres as counts, at encoder step e (R5). -/
def counts (e mm : Nat) : Nat := (mm * 1000 + e / 2) / e

/-- A number of counts as a displacement modulo 2³². -/
def asCount (n : Nat) : Count := BitVec.ofNat 32 n

/-- The line pitch p = e × D, in µm (R5). -/
def pitch (c : Settings) : Nat := c.encoderStep * c.lineInterval

/-- Division that rounds up. -/
def ceilDiv (a b : Nat) : Nat := (a + b - 1) / b

/-- A counter of two bytes, one higher but for its stop at 65535. -/
def bump (n : Nat) : Nat := min (n + 1) Config.counterTop

/-! ### Lists -/

/-- Insert by ascending key, behind the entries of equal key. -/
def insertBy {α : Type} (key : α → Nat) (x : α) (l : List α) : List α :=
  match l with
  | [] => [x]
  | y :: ys => if key x < key y then x :: y :: ys else y :: insertBy key x ys

/-- The list in ascending order of a key. -/
def sortBy {α : Type} (key : α → Nat) (l : List α) : List α :=
  match l with
  | [] => []
  | x :: xs => insertBy key x (sortBy key xs)

/-- Insert an index into an ascending list of indices. -/
def insertIndex (i : Nat) (l : List Nat) : List Nat := insertBy id i l

/-- Put an element in place k of a list, counted from its front. -/
def putAt {α : Type} (k : Nat) (x : α) (l : List α) : List α := l.take k ++ x :: l.drop k

/-- The list in the order numbered k: every order of the list is one of them, and a list of one element has
only one. -/
def arrange {α : Type} (k : Nat) (l : List α) : List α :=
  match l with
  | [] => []
  | [x] => [x]
  | x :: y :: rest =>
      putAt (k % (rest.length + 2)) x (arrange (k / (rest.length + 2)) (y :: rest))

/-! ### Report admission (section 12.2) -/

/-- Is ATTN to be asserted at this depth (R200)? -/
def attnLevel (threshold : Nat) (queue : List Record) : Bool := decide (threshold < queue.length)

/-- Offer a record to admission (R195): discarded when its level is not above the notice threshold; lost,
with the drop count raised (R196), when there is no place for its level; else admitted at the end, after
which ATTN is evaluated (R200). -/
def Rpq.offer (c : Settings) (r : Record) (q : Rpq) : Rpq :=
  if r.level ≤ c.notice then q
  else if (r.level ≤ 5 ∧ Config.queueReserve ≤ q.queue.length)
      ∨ (6 ≤ r.level ∧ Config.queueSize ≤ q.queue.length) then
    { q with dropCount := bump q.dropCount }
  else
    let queue := q.queue ++ [r]
    { q with queue := queue, attn := attnLevel c.attnThreshold queue }

/-- A block submits a record (R194, R195). -/
def submit (r : Record) (s : State) : State := { s with rpq := s.rpq.offer s.settings r }

/-- The one-shot mark of a kind (R197). -/
def Rpq.oneShot (k : OneShotKind) (q : Rpq) : OneShot :=
  match k with
  | .tableFull => q.tableFull
  | .transitFull => q.transitFull

/-- Replace the one-shot mark of a kind. -/
def Rpq.setOneShot (k : OneShotKind) (m : OneShot) (q : Rpq) : Rpq :=
  match k with
  | .tableFull => { q with tableFull := m }
  | .transitFull => { q with transitFull := m }

/-- An occurrence of a kind (R197): with the mark ARMED its record is submitted and the mark disarmed,
whatever becomes of the record; with the mark DISARMED it is counted. -/
def occurrence (k : OneShotKind) (r : Record) (s : State) : State :=
  if (s.rpq.oneShot k).armed then
    { s with rpq := (s.rpq.offer s.settings r).setOneShot k ⟨false, (s.rpq.oneShot k).count⟩ }
  else
    { s with rpq := s.rpq.setOneShot k ⟨false, bump (s.rpq.oneShot k).count⟩ }

/-! ### Links -/

/-- Give a frame to the scan head link (R14). -/
def sendScan (frame : List Byte) (s : State) : State :=
  { s with slr := { s.slr with sent := s.slr.sent ++ [frame] } }

/-- Replace the channel of a head. -/
def setChannel (h : Fin 4) (c : Channel) (s : State) : State := { s with stc := s.stc.set h c }

/-- Give a frame to a head's link (R110, R112). -/
def Channel.send (frame : List Byte) (c : Channel) : Channel := { c with sent := c.sent ++ [frame] }

/-! ### The answer of a command -/

/-- A command's effect, or none while the reset input is asserted: the values of the full reset then hold,
bytes received are discarded and nothing is sent (R203). -/
def unlessReset (s : State) (effect : State → State) : Result :=
  .next (if s.pins.resetAsserted then s else effect s)

end Sys2Proof.Machine
end

