-- ==== Sys2Proof/Machine/Stamps.lean ====
section
/-! DEFINITION. The Stamp Controller (chapter 7): stamp orders, the arming check, firing, misses, faults of a
head and the settlement at drop. -/

namespace Sys2Proof.Machine

/-! ### Orders in the transit list -/

/-- The miss position F + S + 1 (R106). -/
def Order.missPos (o : Order) : Count := o.fire + asCount o.slip + 1

/-- Order a is earlier than order b (R107): F_a lies before F_b, or F_a = F_b and a has the lower tag. -/
def earlierThan (tagA : Tag) (a : Order) (tagB : Tag) (b : Order) : Bool :=
  let d := (b.fire - a.fire).toNat
  decide (1 ≤ d ∧ d < 2 ^ 31) || (decide (d = 0) && decide (tagA.toNat < tagB.toNat))

/-- The order of an entry, if it is owed to head h and in the state given. -/
def Entry.orderFor (h : Fin 4) (st : OrderState) (e : Entry) : Option Order :=
  match e.stamp with
  | none => none
  | some o => if o.head = h ∧ o.state = st then some o else none

/-- The WAITING orders of head h with their tags, in list order. -/
def waitingOrders (h : Fin 4) (l : List Entry) : List (Tag × Order) :=
  l.filterMap (fun e => (e.orderFor h .waiting).map (fun o => (e.tag, o)))

/-- The earliest of some orders (R107). -/
def earliest (l : List (Tag × Order)) : Option (Tag × Order) :=
  match l with
  | [] => none
  | x :: rest =>
      match earliest rest with
      | none => some x
      | some y => if earlierThan y.1 y.2 x.1 x.2 then some y else some x

/-- The entry named by a tag. -/
def findEntry (tag : Tag) (l : List Entry) : Option Entry := l.find? (fun e => decide (e.tag = tag))

/-- Change the stamp part, and add flags to, the entry named by a tag. -/
def Tru.changeOrder (tag : Tag) (f : Order → Order) (flags : FlagSet) (u : Tru) : Tru :=
  { u with
    transit := u.transit.map (fun e =>
      if e.tag = tag ∧ e.stamp.isSome = true then { e with stamp := e.stamp.map f, flags := e.flags ||| flags }
      else e) }

/-- Put the order of the entry named by a tag in a state. -/
def putOrder (tag : Tag) (st : OrderState) (flags : FlagSet) (s : State) : State :=
  { s with tru := s.tru.changeOrder tag (fun o => { o with state := st }) flags }

/-- The order in hand on a channel: the order of the tag in hand, in hand for head h (R108). -/
def orderInHand (h : Fin 4) (s : State) : Option (Tag × Order) :=
  match (s.stc.get h).tag with
  | none => none
  | some t =>
      match findEntry t s.tru.transit with
      | none => none
      | some e =>
          match e.stamp with
          | none => none
          | some o => if o.head = h then some (t, o) else none

/-! ### Channels -/

/-- The channel with no tag in hand, the detached mark clear and both timers stopped, in a state. -/
def Channel.release (st : ChannelState) (c : Channel) : Channel :=
  { c with state := st, tag := none, detached := false, armTimer := false, printTimer := false }

/-- Send ARM for an order: the order becomes ARMING, the channel ARMING with that tag in hand, and the arm
timer starts from zero (R110). -/
def armOrder (h : Fin 4) (tag : Tag) (o : Order) (s : State) : State :=
  let c := s.stc.get h
  setChannel h
    { (c.send (armFrame tag o)) with
      state := .arming, tag := some tag, detached := false, armTimer := true, printTimer := false }
    (putOrder tag .arming 0#16 s)

/-- The arming check of head h (R110). -/
def armingCheck (h : Fin 4) (s : State) : State :=
  match (s.stc.get h).state with
  | .idle =>
      match earliest (waitingOrders h s.tru.transit) with
      | none => s
      | some (t, o) => armOrder h t o s
  | .armed =>
      match earliest (waitingOrders h s.tru.transit), orderInHand h s with
      | some (t, o), some (t', o') =>
          if earlierThan t o t' o' then armOrder h t o (putOrder t' .waiting 0#16 s) else s
      | _, _ => s
  | .arming | .printing | .fault => s

/-- Send FIRE for the tag in hand: the order becomes FIRING, the channel PRINTING, and the print timer starts
from zero (R112). -/
def fireOrder (h : Fin 4) (tag : Tag) (s : State) : State :=
  let c := s.stc.get h
  setChannel h
    { (c.send (fireFrame tag)) with state := .printing, armTimer := false, printTimer := true }
    (putOrder tag .firing 0#16 s)

/-! ### Creation (R105, R106) -/

/-- Whole part of a figure (R70). -/
def wholePart (u : SaleUnit) (figure : Nat) : Nat :=
  match u with
  | .quarterFoot => figure / 4
  | .tenthFoot => figure / 10
  | .decimetre => figure

/-- Fraction digit of a figure, absent in DECIMETRE (R70). -/
def fractionDigit (u : SaleUnit) (figure : Nat) : Option Nat :=
  match u with
  | .quarterFoot => some (figure % 4)
  | .tenthFoot => some (figure % 10)
  | .decimetre => none

/-- The head a hide's stamp part is for, if the hide receives one (R105). -/
def stampHead (c : Settings) (lane : Fin 4) (spot : SpotState) (flags : FlagSet) : Option (Fin 4) :=
  if spot = .found ∧ sharesFlag flags unfitForStamp = false ∧ c.stamping.get lane = true then c.laneHead.get lane
  else none

/-- The stamp part of a hide for head h (R104, R106): F is the spot position plus the head distance in counts,
S the slip in counts; the order is created in MISSED with LATE_CLOSE when F + S + 1 is already reached. -/
def newOrder (c : Settings) (hwm : Count) (h : Fin 4) (spotPos : Count) (unit : SaleUnit) (figure : Nat) : Order :=
  let fire := spotPos + asCount (counts c.encoderStep (c.headDistance.get h))
  let slip := counts c.encoderStep c.slip
  { head := h
    fire := fire
    slip := slip
    state := if reached hwm (fire + asCount slip + 1) then .missed .lateClose else .waiting
    whole := wholePart unit figure
    digit := fractionDigit unit figure
    unit := unit }

/-! ### Misses -/

/-- The miss reason of head h at this moment (R118). -/
def missReason (h : Fin 4) (s : State) : MissReason :=
  if (s.stc.get h).state = .fault then .headFault else .late

/-- The STAMP_MISS record of an order (R119). -/
def missRecord (tag : Tag) (lane : Fin 4) (o : Order) (reason : MissReason) (hwm : Count) : Record :=
  .stampMiss tag lane o.head reason o.state o.fire hwm

/-- Take an order that is not yet printing from the hand of its channel, which becomes IDLE (R118, R120). -/
def takeFromHand (tag : Tag) (o : Order) (s : State) : State :=
  let c := s.stc.get o.head
  if (c.state = .arming ∨ c.state = .armed) ∧ c.tag = some tag then setChannel o.head (c.release .idle) s else s

/-- One order is missed at its miss position (R118), but for the arming check. -/
def missOrder (tag : Tag) (lane : Fin 4) (o : Order) (s : State) : State :=
  let reason := missReason o.head s
  takeFromHand tag o
    (submit (missRecord tag lane o reason s.tcu.hwm) (putOrder tag (.missed reason) Flag.missed.only s))

/-- Is the order WAITING or ARMING with its miss position at the HWM (R118)? -/
def Order.missDue (hwm : Count) (o : Order) : Bool :=
  (decide (o.state = .waiting) || decide (o.state = .arming)) && decide (o.missPos = hwm)

/-- The orders of head h that are missed at this HWM, in ascending tag order (R118). -/
def missesDue (h : Fin 4) (s : State) : List (Tag × Fin 4 × Order) :=
  sortBy (fun x => x.1.toNat) (s.tru.transit.filterMap (fun e =>
    match e.stamp with
    | none => none
    | some o => if o.head = h ∧ o.missDue s.tcu.hwm = true then some (e.tag, e.lane, o) else none))

/-- The tag of the ARMED order in hand of head h whose fire position is at the HWM (R112). -/
def fireDue (h : Fin 4) (s : State) : Option Tag :=
  if (s.stc.get h).state = .armed then
    match orderInHand h s with
    | none => none
    | some (t, o) => if o.fire = s.tcu.hwm then some t else none
  else none

/-- Has head h something due at this HWM? -/
def stampDue (h : Fin 4) (s : State) : Bool := (fireDue h s).isSome || !(missesDue h s).isEmpty

/-- Fire the order in hand of head h if its fire position is at the HWM (R112). -/
def fireIfDue (h : Fin 4) (s : State) : State :=
  match fireDue h s with
  | none => s
  | some t => fireOrder h t s

/-- What head h does at an HWM advance: it fires the order in hand that falls due (R112); every order at its
miss position is missed, in ascending tag order, and the arming check is made once after them (R118). -/
def stampAdvance (h : Fin 4) (s : State) : State :=
  let fired := fireIfDue h s
  match missesDue h fired with
  | [] => fired
  | due => armingCheck h (due.foldl (fun s x => missOrder x.1 x.2.1 x.2.2 s) fired)

/-! ### Settlement at drop (R120) -/

/-- Settle the stamp part of a dropped entry, which has left the list. The answer is the stamp outcome, the
flags of the hide after it, and the state. An order not yet printing is missed; a print under way is
detached. An ARMED order is settled as one that is ARMING (log entry 9, DESIGN CHOICE). -/
def settle (e : Entry) (s : State) : StampOutcome × FlagSet × State :=
  match e.stamp with
  | none => (.none, e.flags, s)
  | some o =>
      match o.state with
      | .done => (.stamped, e.flags, s)
      | .missed _ => (.missed, e.flags, s)
      | .failed => (.failed, e.flags, s)
      | .firing => (.fired, e.flags, setChannel o.head { s.stc.get o.head with detached := true } s)
      | .waiting | .arming | .armed =>
          (.missed, addFlag e.flags .missed,
            armingCheck o.head (takeFromHand e.tag o
              (submit (missRecord e.tag e.lane o (missReason o.head s) s.tcu.hwm) s)))

/-! ### Frames from a head (R109) -/

/-- READY from head h for a tag (R109, R111). -/
def acceptReady (h : Fin 4) (tag : Tag) (s : State) : State :=
  let c := s.stc.get h
  if c.state = .arming ∧ c.tag = some tag then
    let armed := setChannel h { c with state := .armed, armTimer := false } (putOrder tag .armed 0#16 s)
    match orderInHand h armed with
    | none => armed
    | some (t, o) => if reached s.tcu.hwm o.fire then fireOrder h t armed else armingCheck h armed
  else s

/-- DONE from head h for a tag (R109, R113). -/
def acceptDone (h : Fin 4) (tag : Tag) (s : State) : State :=
  let c := s.stc.get h
  if c.state = .printing ∧ c.tag = some tag then
    let freed := setChannel h (c.release .idle) s
    armingCheck h (if c.detached then freed else putOrder tag .done 0#16 freed)
  else s

/-- The effect of a fault on the order in hand (R115, R116). -/
def faultEffect (c : Channel) : HeadEffect :=
  match c.state with
  | .arming | .armed => .returned
  | .printing => if c.detached then .detached else .failed
  | .idle | .fault => .none

/-- A fault of head h (R115): the order in hand is settled, the channel becomes FAULT, HEAD_FAULT is submitted
(R116). -/
def headFault (h : Fin 4) (cause : HeadCause) (s : State) : State :=
  let c := s.stc.get h
  let tag := c.tag.getD 0#16
  let settled :=
    match faultEffect c with
    | .returned => putOrder tag .waiting 0#16 s
    | .failed => putOrder tag .failed Flag.missed.only s
    | .detached | .none => s
  submit (.headFault h cause tag c.state (faultEffect c)) (setChannel h (c.release .fault) settled)

/-- FAULT from head h (R109, R115): discarded in FAULT, or when its tag is neither 0 nor the tag in hand. -/
def acceptFault (h : Fin 4) (tag : Tag) (cause : Byte) (s : State) : State :=
  let c := s.stc.get h
  if c.state ≠ .fault ∧ (tag = 0#16 ∨ c.tag = some tag) then headFault h (.code cause) s else s

/-- The arm timer of head h reaches 50 ms (R114); a stopped timer does not expire. -/
def armExpires (h : Fin 4) (s : State) : State :=
  if (s.stc.get h).armTimer then headFault h .timeoutArm s else s

/-- The print timer of head h reaches 300 ms (R114); a stopped timer does not expire. -/
def printExpires (h : Fin 4) (s : State) : State :=
  if (s.stc.get h).printTimer then headFault h .timeoutPrint s else s

/-- HEAD CLEAR (R117). -/
def serveHeadClear (head : Option (Fin 4)) (s : State) : State × Answer :=
  match head with
  | none => (s, .refuse .range)
  | some h =>
      let c := s.stc.get h
      if c.state = .fault then (armingCheck h (setChannel h (c.release .idle) s), .ok [])
      else (s, .refuse .busy)

/-! ### The head links (R203, R209) -/

/-- How many bytes a head frame of this kind has; a kind that is none of the three is discarded after 6. -/
def headFrameSize (kind : Byte) : Nat := if kind = faultKind then 7 else 6

/-- A head frame that has arrived complete, start byte included: it is discarded unless its CRC is right and
its kind is READY, DONE or FAULT (R109); else it is taken by its kind. -/
def headFrameArrives (h : Fin 4) (frame : List Byte) (s : State) : State :=
  match frame with
  | [_, kind, t1, t0, c1, c0] =>
      let tag := word16 t1 t0
      if kind = readyKind ∧ word16 c1 c0 = headCrc kind tag [] then acceptReady h tag s
      else if kind = doneKind ∧ word16 c1 c0 = headCrc kind tag [] then acceptDone h tag s
      else s
  | [_, kind, t1, t0, cause, c1, c0] =>
      let tag := word16 t1 t0
      if kind = faultKind ∧ word16 c1 c0 = headCrc kind tag [cause] then acceptFault h tag cause s
      else s
  | _ => s

/-- Replace the bytes gathered on a head's link. -/
def setGathered (h : Fin 4) (bytes : List Byte) (s : State) : State :=
  setChannel h { s.stc.get h with gathered := bytes } s

/-- A byte on head h's link: skipped before a start byte, else gathered; the frame is complete when the bytes
its kind fixes have arrived (R203, R209). -/
def headByteArrives (h : Fin 4) (b : Byte) (s : State) : State :=
  match (s.stc.get h).gathered with
  | [] => if b = headStartByte then setGathered h [b] s else s
  | start :: rest =>
      let frame := start :: rest ++ [b]
      match frame with
      | _ :: kind :: _ =>
          if frame.length = headFrameSize kind then headFrameArrives h frame (setGathered h [] s)
          else setGathered h frame s
      | _ => setGathered h frame s

/-- The byte-gap timer of head h's link reaches 5 ms: the frame being received is discarded (R203). -/
def headGapExpires (h : Fin 4) (s : State) : State := setGathered h [] s

end Sys2Proof.Machine
end

