-- ==== Sys2Proof/Machine/Tally.lean ====
section
/-! DEFINITION. The Tally Unit (chapter 9): packs, lots, tickets and the waiter list. -/

namespace Sys2Proof.Machine

/-! ### Tickets -/

/-- Is there room in the ticket store (R147, R159)? -/
def Tlu.hasRoom (u : Tlu) : Bool := decide (u.tickets.length < Config.storeSize)

/-- The ticket of a lane's pack as it stands (R161). -/
def packTicket (lane : Fin 4) (cause : CloseCause) (overrun : Bool) (diverts : Nat) (p : Pack) : Ticket :=
  ⟨.pack, lane, p.number, p.hides, p.units, p.area, p.scrap, diverts, cause, overrun⟩

/-- The ticket of a slot's lot as it stands (R161). -/
def lotTicket (slot : Fin 4) (overrun : Bool) (l : Lot) : Ticket :=
  ⟨.lot, slot, l.number, l.hides, l.units, l.area, 0, 0, .host, overrun⟩

/-- The number of the pack after the one numbered n (R143). -/
def nextPackNumber (n : Nat) : Nat := if 65535 ≤ n then 1 else n + 1

/-- The pack renewed as the next pack (R143). -/
def Pack.renew (p : Pack) : Pack := Pack.fresh (nextPackNumber p.number)

/-- Store a pack's ticket: it becomes the newest ticket and takes the lane's divert count, which is set to
0; a TICKET record is submitted; the pack-change line is asserted and its timer starts; the pack is renewed
(R147, R150, R165). -/
def storePackTicket (lane : Fin 4) (cause : CloseCause) (overrun : Bool) (s : State) : State :=
  let t := packTicket lane cause overrun (s.tru.diverts.get lane) (s.tlu.packs.get lane)
  let stored := { s with
    tlu := { s.tlu with tickets := s.tlu.tickets ++ [t] }
    tru := { s.tru with diverts := s.tru.diverts.set lane 0 } }
  let told := submit (.ticket t) stored
  { told with
    tlu := { told.tlu with
      changeLine := told.tlu.changeLine.set lane true
      changeTimer := told.tlu.changeTimer.set lane true
      packs := told.tlu.packs.set lane (told.tlu.packs.get lane).renew } }

/-- A pack that closes with the store full enters WAIT: it joins the waiter list, the pack-hold line is
asserted and PACK_WAIT is submitted (R148, R165). -/
def packEntersWait (lane : Fin 4) (cause : CloseCause) (s : State) : State :=
  let p := s.tlu.packs.get lane
  let waiters := s.tlu.waiters ++ [.pack lane]
  submit (.packWait lane p.number p.hides p.units cause waiters.length)
    { s with
      tlu := { s.tlu with
        packs := s.tlu.packs.set lane { p with state := .wait, cause := some cause }
        waiters := waiters
        holdLine := s.tlu.holdLine.set lane true } }

/-- What became of a pack at its close: STORED or WAIT (R152). -/
inductive CloseOutcome where
  | stored
  | wait
  deriving DecidableEq, Repr

/-- A lane's pack closes (R147). -/
def closePack (lane : Fin 4) (cause : CloseCause) (s : State) : State :=
  if s.tlu.hasRoom then storePackTicket lane cause false s else packEntersWait lane cause s

/-- The outcome a close of a pack or lot now has. -/
def closeOutcome (s : State) : CloseOutcome := if s.tlu.hasRoom then .stored else .wait

/-! ### Packs -/

/-- Does the pack meet the target (R145)? -/
def Pack.meets (p : Pack) (t : Target) : Bool :=
  match t.mode with
  | .count => decide (t.value ≤ p.hides)
  | .area => decide (t.value ≤ p.units)
  | .none => false

/-- Is an OPEN pack of the lane at its target (R145)? -/
def targetMet (lane : Fin 4) (s : State) : Bool :=
  decide ((s.tlu.packs.get lane).state = .opened) && (s.tlu.packs.get lane).meets (s.settings.target.get lane)

/-- The target check of a lane (R145). -/
def targetCheck (lane : Fin 4) (s : State) : State :=
  if targetMet lane s then closePack lane .target s else s

/-- Can the lane's pack take another hide (R144, R149)? -/
def packHasRoom (lane : Fin 4) (s : State) : Bool := decide ((s.tlu.packs.get lane).hides < Config.packSize)

/-- The tally of a hide into its lane's pack, and the target check of an OPEN pack (R144). -/
def tallyPack (lane : Fin 4) (figure area : Nat) (s : State) : State :=
  let p := s.tlu.packs.get lane
  let p' := { p with hides := p.hides + 1, units := p.units + figure, area := p.area + area }
  targetCheck lane { s with tlu := { s.tlu with packs := s.tlu.packs.set lane p' } }

/-- One more SMALL hide scrapped at a lane's drop (R146). -/
def scrapCount (lane : Fin 4) (s : State) : State :=
  let p := s.tlu.packs.get lane
  { s with tlu := { s.tlu with packs := s.tlu.packs.set lane { p with scrap := bump p.scrap } } }

/-! ### Lots -/

/-- Replace a slot's lot. -/
def setLot (slot : Fin 4) (l : Lot) (s : State) : State :=
  { s with tlu := { s.tlu with lots := s.tlu.lots.set slot l } }

/-- Store a lot's ticket and free its slot (R159, R164, R165). -/
def storeLotTicket (slot : Fin 4) (overrun : Bool) (s : State) : State :=
  let t := lotTicket slot overrun (s.tlu.lots.get slot)
  setLot slot Lot.freeSlot
    (submit (.ticket t) { s with tlu := { s.tlu with tickets := s.tlu.tickets ++ [t] } })

/-- A CLOSING lot with nothing in flight closes: its ticket is stored, or it waits for room (R159). -/
def closeLot (slot : Fin 4) (s : State) : State :=
  if s.tlu.hasRoom then storeLotTicket slot false s
  else
    let marked := setLot slot { s.tlu.lots.get slot with mark := true } s
    { marked with tlu := { marked.tlu with waiters := marked.tlu.waiters ++ [.lot slot] } }

/-- Does a lot's lane mask name the lane (R154)? -/
def Lot.namesLane (l : Lot) (lane : Fin 4) : Bool := l.mask.testBit lane.val

/-- Does a hide of this lane with these flags join the lot (R155)? -/
def Lot.takes (l : Lot) (lane : Fin 4) (flags : FlagSet) : Bool :=
  !sharesFlag flags unfitForLot && decide (l.state = .opened) && l.namesLane lane
    && decide (l.hides + l.inFlight < 65535)

/-- The lot set of a hide at insertion (R155). -/
def lotSetFor (lane : Fin 4) (flags : FlagSet) (s : State) : Quad Bool :=
  s.tlu.lots.map (fun l => l.takes lane flags)

/-- The in-flight count of each slot of the set, one higher (R155). -/
def raiseInFlight (set : Quad Bool) (s : State) : State :=
  let up (i : Fin 4) : Lot :=
    let l := s.tlu.lots.get i
    if set.get i then { l with inFlight := l.inFlight + 1 } else l
  { s with tlu := { s.tlu with lots := ⟨up 0, up 1, up 2, up 3⟩ } }

/-- The tally of a packed hide into each slot of its lot set (R156). -/
def tallyLots (set : Quad Bool) (figure area : Nat) (s : State) : State :=
  let up (i : Fin 4) : Lot :=
    let l := s.tlu.lots.get i
    if set.get i then { l with hides := l.hides + 1, units := l.units + figure, area := l.area + area } else l
  { s with tlu := { s.tlu with lots := ⟨up 0, up 1, up 2, up 3⟩ } }

/-- The in-flight decrement of one slot; a CLOSING lot whose count reaches 0 closes (R156). -/
def lowerInFlight (slot : Fin 4) (s : State) : State :=
  let l := s.tlu.lots.get slot
  let l' := { l with inFlight := l.inFlight - 1 }
  let lowered := setLot slot l' s
  if l'.state = .closing ∧ l'.inFlight = 0 then closeLot slot lowered else lowered

/-- The in-flight decrements of a drop, in ascending slot order (R138, R156). -/
def releaseLots (set : Quad Bool) (s : State) : State :=
  (fours.filter (fun i => set.get i)).foldl (fun s i => lowerInFlight i s) s

/-! ### The waiter service -/

/-- Serve the first waiter, and only that one (R164). -/
def waiterService (s : State) : State :=
  match s.tlu.waiters with
  | [] => s
  | .pack lane :: rest =>
      let taken := { s with tlu := { s.tlu with waiters := rest, holdLine := s.tlu.holdLine.set lane false } }
      storePackTicket lane ((s.tlu.packs.get lane).cause.getD .host) true taken
  | .lot slot :: rest =>
      storeLotTicket slot true { s with tlu := { s.tlu with waiters := rest } }

/-! ### Host requests -/

/-- The outcome byte of a pack close (R205). -/
def CloseOutcome.packCode (o : CloseOutcome) : Byte :=
  match o with
  | .stored => 0#8
  | .wait => 1#8

/-- The outcome byte of a lot that closed at LOT CLOSE (R205). -/
def CloseOutcome.lotCode (o : CloseOutcome) : Byte :=
  match o with
  | .stored => 1#8
  | .wait => 2#8

/-- The lane, head or slot a byte names, if it is at most 3. -/
def placeOf (b : Byte) : Option (Fin 4) := if h : b.toNat < 4 then some ⟨b.toNat, h⟩ else none

/-- PACK CLOSE (R152). -/
def servePackClose (lane : Byte) (s : State) : State × Answer :=
  match placeOf lane with
  | none => (s, .refuse .range)
  | some l =>
      let p := s.tlu.packs.get l
      if p.hides = 0 then (s, .refuse .empty)
      else if p.state = .wait then (s, .refuse .busy)
      else
        (closePack l .host s,
          .ok ([lane] ++ field 2 p.number ++ [(closeOutcome s).packCode]))

/-- The target mode a code names (R204). -/
def targetModeOf (n : Nat) : Option TargetMode :=
  match n with
  | 0 => some .count
  | 1 => some .area
  | 2 => some .none
  | _ => none

/-- Is the value in range for the mode (R153)? -/
def targetInRange (m : TargetMode) (value : Nat) : Bool :=
  match m with
  | .count => decide (1 ≤ value ∧ value ≤ 999)
  | .area => decide (1 ≤ value ∧ value ≤ 9999999)
  | .none => true

/-- The target as it is held; under NONE the value is held as 0 (R153). -/
def heldTarget (m : TargetMode) (value : Nat) : Target :=
  match m with
  | .count => ⟨.count, value⟩
  | .area => ⟨.area, value⟩
  | .none => ⟨.none, 0⟩

/-- Write a lane's target; an OPEN pack is checked against it at once (R153). -/
def writeTarget (lane : Fin 4) (t : Target) (s : State) : State :=
  targetCheck lane { s with settings := { s.settings with target := s.settings.target.set lane t } }

/-- The number and outcome of the pack that a new target closes, or 0 and FFh (R153, R205). -/
def targetReport (lane : Fin 4) (t : Target) (s : State) : List Byte :=
  let p := s.tlu.packs.get lane
  if p.state = .opened ∧ p.meets t = true then field 2 p.number ++ [(closeOutcome s).packCode]
  else [0#8, 0#8, 0xFF#8]

/-- PACK TARGET (R153). -/
def servePackTarget (lane mode : Byte) (value : BitVec 32) (s : State) : State × Answer :=
  match placeOf lane, targetModeOf mode.toNat with
  | some l, some m =>
      if targetInRange m value.toNat then
        let t := heldTarget m value.toNat
        (writeTarget l t s, .ok (targetReport l t s))
      else (s, .refuse .range)
  | _, _ => (s, .refuse .range)

/-- LOT OPEN (R157). -/
def serveLotOpen (slot : Byte) (number : BitVec 32) (mask : Byte) (s : State) : State × Answer :=
  match placeOf slot with
  | none => (s, .refuse .range)
  | some i =>
      if (s.tlu.lots.get i).state ≠ .free then (s, .refuse .busy)
      else if 1 ≤ number.toNat ∧ number.toNat ≤ 999999 ∧ 1 ≤ mask.toNat ∧ mask.toNat ≤ 15 then
        (setLot i ⟨.opened, number.toNat, mask.toNat, 0, 0, 0, 0, false⟩ s, .ok [])
      else (s, .refuse .range)

/-- LOT CLOSE (R158). -/
def serveLotClose (slot : Byte) (s : State) : State × Answer :=
  match placeOf slot with
  | none => (s, .refuse .range)
  | some i =>
      let l := s.tlu.lots.get i
      if l.state = .opened then
        let closing := setLot i { l with state := .closing } s
        if l.inFlight = 0 then
          (closeLot i closing, .ok ([slot] ++ field 1 l.inFlight ++ [(closeOutcome s).lotCode]))
        else (closing, .ok ([slot] ++ field 1 l.inFlight ++ [0#8]))
      else (s, .refuse .busy)

/-- LOT READ (R160). -/
def serveLotRead (slot : Byte) (s : State) : State × Answer :=
  match placeOf slot with
  | none => (s, .refuse .range)
  | some i =>
      let l := s.tlu.lots.get i
      (s, .ok ([l.state.code] ++ field 4 l.number ++ field 1 l.mask ++ field 2 l.hides ++ field 4 l.units
        ++ field 6 l.area ++ field 1 l.inFlight ++ [boolCode l.mark]))

/-- TICKET (R162). -/
def serveTicket (s : State) : State × Answer :=
  match s.tlu.tickets with
  | [] => (s, .refuse .empty)
  | t :: rest => (waiterService { s with tlu := { s.tlu with tickets := rest } }, .ok (ticketBytes t))

/-- The pack-change timer of a lane reaches 200 ms (R150); a stopped timer does not expire. -/
def packChangeExpires (lane : Fin 4) (s : State) : State :=
  if s.tlu.changeTimer.get lane then
    { s with
      tlu := { s.tlu with
        changeLine := s.tlu.changeLine.set lane false
        changeTimer := s.tlu.changeTimer.set lane false } }
  else s

end Sys2Proof.Machine
end

