-- ==== Sys2Proof/Machine/Transit.lean ====
section
/-! DEFINITION. The Transit Unit (chapter 8): what a closed hide becomes, the drop with its fate and its result
record, and the divert gates. -/

namespace Sys2Proof.Machine

/-- A closed hide as the Area Unit hands it on (R74). -/
structure ClosedHide where
  tag      : Tag
  lane     : Option (Fin 4)
  flags    : FlagSet
  area     : Nat
  figure   : Nat
  unit     : SaleUnit
  length   : Nat
  width    : Nat
  fill     : Nat
  pieces   : Nat
  lastPos  : Count
  spot     : SpotState
  spotPos  : Count
  deriving DecidableEq, Repr

/-! ### Divert gates (R134, R135) -/

/-- A DIVERT asserts the lane's gate line, starts its pulse timer from zero and raises the divert count. -/
def pulseGate (lane : Fin 4) (s : State) : State :=
  { s with
    tru := { s.tru with
      gateLine := s.tru.gateLine.set lane true
      gateTimer := s.tru.gateTimer.set lane true
      diverts := s.tru.diverts.set lane (bump (s.tru.diverts.get lane)) } }

/-- Deassert a lane's gate line and stop its timer. -/
def closeGate (lane : Fin 4) (s : State) : State :=
  { s with
    tru := { s.tru with
      gateLine := s.tru.gateLine.set lane false
      gateTimer := s.tru.gateTimer.set lane false } }

/-- The gate pulse timer of a lane reaches 100 ms; a stopped timer does not expire. -/
def gatePulseExpires (lane : Fin 4) (s : State) : State :=
  if s.tru.gateTimer.get lane then closeGate lane s else s

/-! ### Drop (R132) -/

/-- The fate of a hide at drop and its flags after the decision (R133, R136, R137). -/
def decideFate (lane : Fin 4) (flags : FlagSet) (s : State) : Fate × FlagSet :=
  let gate := s.settings.gatePresent.get lane
  if gate = true ∧ (hasFlag flags .ref = true ∨ sharesFlag flags (s.settings.divertMask.get lane) = true) then
    (.divert, flags)
  else if hasFlag flags .small = true ∨ hasFlag flags .ref = true then (.scrap, flags)
  else if packHasRoom lane s then (.pack, flags)
  else (if gate then .divert else .none, addFlag flags .packFull)

/-- What the fate requires of the Tally Unit (R138, part 1). -/
def tallyFate (fate : Fate) (e : Entry) (flags : FlagSet) (s : State) : State :=
  match fate with
  | .pack => tallyLots e.lots e.figure e.area (tallyPack e.lane e.figure e.area s)
  | .scrap => if hasFlag flags .small = true ∧ hasFlag flags .ref = false then scrapCount e.lane s else s
  | .divert | .none => s

/-- The hide result record of a dropped entry (R139); number is the pack's number at the tally. -/
def dropReport (e : Entry) (flags : FlagSet) (fate : Fate) (number : Nat) (outcome : StampOutcome) : HideReport :=
  { tag := e.tag
    lane := some e.lane
    area := e.area
    figure := e.figure
    unit := e.unit
    fill := e.fill
    length := e.length
    width := e.width
    pieces := e.pieces
    flags := flags
    fate := fate
    pack := if fate = .pack then some number else none
    lots := if fate = .pack then e.lots else Quad.const false
    outcome := outcome }

/-- The drop of an entry that has left the list (R132, steps 2 to 6): settlement, fate, tally and in-flight
decrements, gate, result record. -/
def dropEntry (e : Entry) (s : State) : State :=
  let (outcome, settledFlags, settled) := settle e s
  let (fate, flags) := decideFate e.lane settledFlags settled
  let number := (settled.tlu.packs.get e.lane).number
  let tallied := releaseLots e.lots (tallyFate fate e flags settled)
  let gated := if fate = .divert then pulseGate e.lane tallied else tallied
  submit (.hide (dropReport e flags fate number outcome)) gated

/-- Drop the first entry of the list while its drop position is reached (R131); n bounds the drops. -/
def dropReached (n : Nat) (s : State) : State :=
  match n with
  | 0 => s
  | n + 1 =>
      match s.tru.transit with
      | [] => s
      | e :: rest =>
          if reached s.tcu.hwm e.dropPos then
            dropReached n (dropEntry e { s with tru := { s.tru with transit := rest } })
          else s

/-- Is the first entry's drop position reached? -/
def dropDue (s : State) : Bool :=
  match s.tru.transit with
  | [] => false
  | e :: _ => reached s.tcu.hwm e.dropPos

/-- Every drop that falls due at an HWM advance (R131). -/
def dropAdvance (s : State) : State := dropReached s.tru.transit.length s

/-! ### A closed hide reaches the Transit Unit (R126) -/

/-- The result record of a hide that is not inserted (R127, R128). -/
def closeReport (m : ClosedHide) (flag : Flag) : HideReport :=
  { tag := m.tag
    lane := m.lane
    area := m.area
    figure := m.figure
    unit := m.unit
    fill := m.fill
    length := m.length
    width := m.width
    pieces := m.pieces
    flags := addFlag m.flags flag
    fate := .none
    pack := none
    lots := Quad.const false
    outcome := .none }

/-- Does entry a lie before entry b in the list (R124)? -/
def Entry.before (a b : Entry) : Bool :=
  let d := (b.dropPos - a.dropPos).toNat
  decide (1 ≤ d ∧ d < 2 ^ 31) || (decide (d = 0) && decide (a.tag.toNat < b.tag.toNat))

/-- Place an entry in the list (R124, R130). -/
def placeEntry (e : Entry) (l : List Entry) : List Entry :=
  match l with
  | [] => [e]
  | x :: rest => if e.before x then e :: x :: rest else x :: placeEntry e rest

/-- The entry a hide becomes (R129): its drop position, its lot set and its stamp part. A stamp part created in
MISSED sets MISSED on the hide (R106). -/
def newEntry (m : ClosedHide) (lane : Fin 4) (s : State) : Entry :=
  let c := s.settings
  let stamp := (stampHead c lane m.spot m.flags).map
    (fun h => newOrder c s.tcu.hwm h m.spotPos m.unit m.figure)
  { tag := m.tag
    lane := lane
    flags := if stamp.map (fun o => o.state) = some (.missed .lateClose) then addFlag m.flags .missed else m.flags
    area := m.area
    figure := m.figure
    unit := m.unit
    length := m.length
    width := m.width
    fill := m.fill
    pieces := m.pieces
    dropPos := m.lastPos + asCount (counts c.encoderStep (c.dropDistance.get lane))
    lots := lotSetFor lane m.flags s
    stamp := stamp }

/-- The STAMP_MISS record of an order created in MISSED (R106, R119); the state before is WAITING. -/
def reportLateClose (e : Entry) (s : State) : State :=
  match e.stamp with
  | none => s
  | some o =>
      if o.state = .missed .lateClose then
        submit (missRecord e.tag e.lane { o with state := .waiting } .lateClose s.tcu.hwm) s
      else s

/-- The arming check for a WAITING order that an insertion added (R110). -/
def checkNewOrder (e : Entry) (s : State) : State :=
  match e.stamp with
  | none => s
  | some o => if o.state = .waiting then armingCheck o.head s else s

/-- A hide is inserted (R129). An entry whose drop position is already reached is dropped at once, before the
arming check of its head. -/
def insertHide (m : ClosedHide) (lane : Fin 4) (s : State) : State :=
  let e := newEntry m lane s
  let joined := reportLateClose e (raiseInFlight e.lots s)
  if reached s.tcu.hwm e.dropPos then checkNewOrder e (dropEntry e joined)
  else checkNewOrder e { joined with tru := { joined.tru with transit := placeEntry e joined.tru.transit } }

/-- The Transit Unit takes a closed hide (R126): unlaned (R127), untracked (R128) or inserted (R129). -/
def transitTakes (m : ClosedHide) (s : State) : State :=
  match m.lane with
  | none => submit (.hide (closeReport m .unlaned)) s
  | some lane =>
      if Config.transitSize ≤ s.tru.transit.length then
        let first := (s.tru.transit.head?.map (fun e => e.dropPos)).getD 0
        submit (.hide (closeReport m .untracked))
          (occurrence .transitFull (.transitFull m.tag lane s.tcu.hwm first) s)
      else insertHide m lane s

end Sys2Proof.Machine
end

