-- ==== Sys2Proof/Machine/Area.lean ====
section
/-! DEFINITION. The Area Unit and its Calibration function (chapters 4 and 5): from a closed hide's width sum to
its area, figure and dimensions, and the choice of a calibration's reference. -/

namespace Sys2Proof.Machine

/-! ### Arithmetic (R62 to R73) -/

/-- A quotient rounded half up (section 0.7). -/
def halfUp (n d : Nat) : Nat := (n + d / 2) / d

/-- Raw area in mm² of a width sum at pitch p (R62). -/
def rawArea (widthSum p : Nat) : Nat := halfUp (widthSum * p) 1000000

/-- Corrected area in mm² (R64). -/
def correctedArea (raw gain : Nat) : Nat := halfUp (raw * gain) 100000

/-- Numerator, divisor and limit of the figure (R67). -/
def figureTerms (u : SaleUnit) (area : Nat) : Nat × Nat × Nat :=
  match u with
  | .quarterFoot => (area * 400, 9290304, 39999)
  | .tenthFoot => (area * 1000, 9290304, 9999)
  | .decimetre => (area, 10000, 9999)

/-- The figure before clamping (R68). -/
def unclampedFigure (u : SaleUnit) (r : Rounding) (area : Nat) : Nat :=
  let (n, q, _) := figureTerms u area
  match r with
  | .nearest => halfUp n q
  | .down => n / q

/-- The limit of the figure (R67). -/
def figureLimit (u : SaleUnit) : Nat := (figureTerms u 0).2.2

/-- The prefix position P_i of a cell width table: the sum of the widths below cell i (R18). -/
def prefixPos (widths : List Nat) (i : Nat) : Nat := (widths.take i).sum

/-- The width of cells a to b inclusive (R18). -/
def cellsWidth (widths : List Nat) (a b : Nat) : Nat := prefixPos widths (b + 1) - prefixPos widths a

/-- Length figure in mm (R71). -/
def lengthFigure (firstLine lastLine : Count) (p : Nat) : Nat :=
  halfUp (((lastLine - firstLine).toNat + 1) * p) 1000

/-- Width figure in mm (R72). -/
def widthFigure (widths : List Nat) (left right : Nat) : Nat := halfUp (cellsWidth widths left right) 1000

/-- Fill figure in mm² (R73). -/
def fillFigure (fillSum p : Nat) : Nat := halfUp (fillSum * p) 1000000

/-! ### Calibration (R79 to R84) -/

/-- Submit a CAL_RESULT record (R82). -/
def reportCalibration (cause : CalCause) (tag : Tag) (aRef aRaw : Nat) (flags : FlagSet) (gNew : Nat) (s : State) :
    State :=
  submit (.calResult cause tag aRef aRaw flags s.settings.gain (min gNew 4294967295)) s

/-- Is an offered hide the reference (R79)? -/
def isReference (c : Settings) (raw : Nat) (flags : FlagSet) : Bool :=
  decide (c.minArea ≤ raw) && decide (1 ≤ raw) && hasFlag flags .refCandidate

/-- The quotient of a reference (R81). -/
def calQuotient (aRef raw : Nat) : Nat := (aRef * 100000 + raw / 2) / raw

/-- The reference is judged (R80, R81): the result is reported and the calibration request state becomes
ENDING; the gain is written when the quotient lies in its range. flags are the hide's, with REF. -/
def judgeReference (tag : Tag) (aRef raw : Nat) (flags : FlagSet) (s : State) : State :=
  let ending (s : State) : State := { s with cal := .ending }
  let g := calQuotient aRef raw
  if sharesFlag flags unfitForReference then ending (reportCalibration .flagged tag aRef raw flags 0 s)
  else if 95000 ≤ g ∧ g ≤ 105000 then
    let told := reportCalibration .ok tag aRef raw flags g s
    ending { told with settings := { told.settings with gain := g } }
  else ending (reportCalibration .range tag aRef raw flags g s)

/-- A hide is offered to the Calibration function while a calibration is outstanding (R65, R79). The answer is
the hide's flags after the offer, and the state. -/
def offerHide (tag : Tag) (raw : Nat) (flags : FlagSet) (s : State) : FlagSet × State :=
  match s.cal with
  | .waiting aRef =>
      if isReference s.settings raw flags then
        let marked := addFlag flags .ref
        (marked, judgeReference tag aRef raw marked s)
      else (flags, s)
  | .none | .ending => (flags, s)

/-- STOP or a FAULT entry ends a calibration (R84): one that is WAITING is ABORTED with its record, and the
calibration request state becomes NONE. -/
def abortCalibration (s : State) : State :=
  match s.cal with
  | .waiting aRef => { reportCalibration .aborted 0#16 aRef 0 0#16 0 s with cal := .none }
  | .none | .ending => { s with cal := .none }

/-! ### The closed hide (R60, R74) -/

/-- The sale figure and the flags after it (R66, R68, R69): a hide below the minimum area that is not the
reference is SMALL with figure 0; a figure above its limit is clamped with OVER. -/
def saleFigure (c : Settings) (area : Nat) (flags : FlagSet) : Nat × FlagSet :=
  if hasFlag flags .ref = false ∧ area < c.minArea then (0, addFlag flags .small)
  else
    let f := unclampedFigure c.saleUnit c.rounding area
    if figureLimit c.saleUnit < f then (figureLimit c.saleUnit, addFlag flags .over) else (f, flags)

/-- The line position of a line of a hide: first position + (line − first line) × D (R54, R106). -/
def hideLinePos (c : Settings) (h : Hide) (line : Count) : Count :=
  h.firstPos + (line - h.firstLine) * asCount c.lineInterval

/-- Steps 3 to 6 of the Area Unit (R60) for a hide of this raw area and these flags after the offer. -/
def measureHide (c : Settings) (widths : List Nat) (h : Hide) (raw : Nat) (flags : FlagSet) : ClosedHide :=
  let area := correctedArea raw c.gain
  let (figure, flags') := saleFigure c area flags
  { tag := h.tag
    lane := h.lane
    flags := flags'
    area := area
    figure := figure
    unit := c.saleUnit
    length := lengthFigure h.firstLine h.lastLine (pitch c)
    width := widthFigure widths h.left h.right
    fill := fillFigure h.fillSum (pitch c)
    pieces := h.pieces
    lastPos := hideLinePos c h h.lastLine
    spot := h.spot.state
    spotPos := hideLinePos c h h.spot.start }

/-- The Area Unit takes a closed hide, computes it and hands it to the Transit Unit (R60). -/
def areaTakes (h : Hide) (s : State) : State :=
  let raw := rawArea h.widthSum (pitch s.settings)
  let (flags, offered) := offerHide h.tag raw h.flags s
  transitTakes (measureHide offered.settings offered.lcn.widths h raw flags) offered

/-- Closed hides are handed on one at a time, each whole before the next (R54, R60). -/
def handOnAll (hides : List Hide) (s : State) : State := hides.foldl (fun s h => areaTakes h s) s

end Sys2Proof.Machine
end

