-- ==== Sys2Proof/Machine/Tracking.lean ====
section
/-! DEFINITION. The Hide Tracker and the Spot Finder (chapters 3 and 6): touch sets, merge groups, openings,
accumulation, gaps, closes, and the spot search of each open hide. -/

namespace Sys2Proof.Machine

/-- One line's run list as the Line Conditioner hands it on (R29), with what the Hide Tracker reads at that
moment: the settings, the cell widths, the measuring state, and the tags held by the transit list. -/
structure LineInput where
  line     : Count
  pos      : Count
  runs     : List Run
  settings : Settings
  widths   : List Nat
  mode     : Mode
  held     : List Tag
  deriving DecidableEq, Repr

/-! ### Touching and merging (R39 to R42) -/

/-- Do two stretches of cells share a cell (R39)? -/
def shareCell (a b c d : Nat) : Bool := decide (a ≤ d ∧ c ≤ b)

/-- Does a run touch a hide (R39)? -/
def touches (r : Run) (h : Hide) : Bool := h.lastRuns.any (fun t => shareCell r.first r.last t.first t.last)

/-- The touch set of a run, as tags (R39). -/
def touchSet (table : List Hide) (r : Run) : List Tag := (table.filter (fun h => touches r h)).map (fun h => h.tag)

/-- Do two tag lists share a tag? -/
def shareTag (a b : List Tag) : Bool := a.any (fun t => decide (t ∈ b))

/-- Add one run's touch set to the groups: the groups it meets become one (R40). -/
def addTouch (groups : List (List Tag)) (ts : List Tag) : List (List Tag) :=
  match ts with
  | [] => groups
  | _ :: _ =>
      let met := (groups.filter (fun g => shareTag g ts)).flatten
      (met ++ ts.filter (fun t => !decide (t ∈ met))) :: groups.filter (fun g => !shareTag g ts)

/-- The merge groups of a line, a group of one included (R40). -/
def mergeGroups (table : List Hide) (runs : List Run) : List (List Tag) :=
  (runs.map (fun r => touchSet table r)).foldl addTouch []

/-- The age of a hide (R40). -/
def Hide.age (line : Count) (h : Hide) : Nat := (line - h.firstLine).toNat

/-- Is hide a to be preferred to hide b as a survivor (R40)? -/
def outlives (line : Count) (a b : Hide) : Bool :=
  decide (b.age line < a.age line) || (decide (a.age line = b.age line) && decide (a.tag.toNat < b.tag.toNat))

/-- The survivor of some hides (R40). -/
def survivorOf (line : Count) (hides : List Hide) : Option Hide :=
  match hides with
  | [] => none
  | x :: rest =>
      match survivorOf line rest with
      | none => some x
      | some y => if outlives line y x then some y else some x

/-- A group with its survivor's tag. -/
structure Group where
  tags     : List Tag
  survivor : Tag
  deriving DecidableEq, Repr

/-- The merge groups with their survivors (R40). -/
def resolvedGroups (line : Count) (table : List Hide) (runs : List Run) : List Group :=
  (mergeGroups table runs).filterMap (fun g =>
    (survivorOf line (table.filter (fun h => decide (h.tag ∈ g)))).map (fun h => ⟨g, h.tag⟩))

/-- The group that holds a tag. -/
def groupOf (groups : List Group) (t : Tag) : Option Group := groups.find? (fun g => decide (t ∈ g.tags))

/-- The survivor's record after it absorbed another (R41). -/
def absorb (a b : Hide) : Hide :=
  { a with
    widthSum := a.widthSum + b.widthSum
    fillSum := a.fillSum + b.fillSum
    pieces := min (a.pieces + b.pieces) 16
    left := min a.left b.left
    right := max a.right b.right
    covered := max a.covered b.covered
    flags := addFlag (a.flags ||| b.flags) .joined }

/-- The table after the merges of the line (R41). -/
def mergedTable (groups : List Group) (table : List Hide) : List Hide :=
  table.filterMap (fun h =>
    match groupOf groups h.tag with
    | none => some h
    | some g =>
        if h.tag = g.survivor then
          some ((table.filter (fun b => decide (b.tag ∈ g.tags) && !decide (b.tag = h.tag))).foldl absorb h)
        else none)

/-- The hide a run is assigned to, if it touches any (R42). -/
def assignedTag (groups : List Group) (table : List Hide) (r : Run) : Option Tag :=
  match touchSet table r with
  | [] => none
  | t :: _ => (groupOf groups t).map (fun g => g.survivor)

/-! ### Opening (R36, R43 to R46) -/

/-- The counter one step on; a step from 65535 goes to 1 (R36). -/
def stepTag (t : Tag) : Tag := if t = 0xFFFF#16 then 1#16 else t + 1#16

/-- The first tag from the counter on that is not held (R36); n bounds the steps past held tags. -/
def freeTag (held : List Tag) (n : Nat) (t : Tag) : Tag :=
  match n with
  | 0 => t
  | n + 1 => if t ∈ held then freeTag held n (stepTag t) else t

/-- Does a window hold a cell, its lane being enabled (R45)? -/
def Window.takes (w : Window) (cell : Nat) : Bool := w.enabled && decide (w.first ≤ cell ∧ cell ≤ w.last)

/-- The lane of a hide that opens with a run (R45). -/
def laneFor (c : Settings) (first last : Nat) : Option (Fin 4) :=
  fours.find? (fun i => (c.window.get i).takes ((first + last) / 2))

/-- The spot part at open (R92). -/
def spotAtOpen (c : Settings) (lane : Option (Fin 4)) (line : Count) : Spot :=
  let searched :=
    match lane with
    | none => false
    | some l => (c.laneHead.get l).isSome && c.stamping.get l
  ⟨if searched then .lead else .none, line, 0⟩

/-- The record of a hide that opens with a run (R44), before the accumulation of its line. -/
def openedHide (x : LineInput) (shadow : List Span) (tag : Tag) (r : Run) : Hide :=
  let lane := laneFor x.settings r.first r.last
  { tag := tag
    lane := lane
    firstLine := x.line
    firstPos := x.pos
    lastLine := x.line
    covered := 0
    gap := 0
    widthSum := 0
    fillSum := 0
    left := r.first
    right := r.last
    lastRuns := []
    pieces := 1
    flags := addFlagIf (decide (x.mode = .calibrate))
      (addFlagIf (shadow.any (fun t => shareCell r.first r.last t.first t.last)) 0#16 .partialHide) .refCandidate
    spot := spotAtOpen x.settings lane x.line }

/-- What the openings of a line have made so far: the table, the next-tag counter, the runs assigned to a
hide, and the runs that could not open. -/
structure Openings where
  table     : List Hide
  nextTag   : Tag
  assigned  : List (Run × Tag)
  notOpened : List Run
  deriving DecidableEq, Repr

/-- One run of the line: it goes to the hide it touches, or opens a hide while the table has a free place, or is
not tracked (R42, R43). -/
def placeRun (x : LineInput) (shadow : List Span) (o : Openings) (r : Run × Option Tag) : Openings :=
  match r.2 with
  | some t => { o with assigned := o.assigned ++ [(r.1, t)] }
  | none =>
      if o.table.length < Config.tableSize then
        let held := o.table.map (fun h => h.tag) ++ x.held
        let tag := freeTag held held.length o.nextTag
        { o with
          table := o.table ++ [openedHide x shadow tag r.1]
          nextTag := stepTag tag
          assigned := o.assigned ++ [(r.1, tag)] }
      else { o with notOpened := o.notOpened ++ [r.1] }

/-! ### Accumulation (R47 to R50) -/

/-- Does a run of the line lie between two runs (R48)? -/
def runBetween (runs : List Run) (a b : Run) : Bool :=
  runs.any (fun r => decide (a.last < r.first ∧ r.last < b.first))

/-- The hole fill between the runs of one hide on one line (R48). -/
def holeFill (fill : Nat) (widths : List Nat) (line : List Run) (mine : List Run) : Nat :=
  match mine with
  | a :: b :: rest =>
      (if b.first - a.last - 1 ≤ fill ∧ runBetween line a b = false then
        prefixPos widths b.first - prefixPos widths (a.last + 1)
      else 0) + holeFill fill widths line (b :: rest)
  | _ => 0

/-- The stretch of a run. -/
def Run.span (r : Run) : Span := ⟨r.first, r.last⟩

/-- The last runs a line leaves (R50): at most 8, the 8th extended to the end of the last run. -/
def keptRuns (runs : List Run) : List Span :=
  if runs.length ≤ Config.lastRunsSize then runs.map Run.span
  else
    (runs.take 7).map Run.span ++
      [⟨((runs.drop 7).map (fun r => r.first)).headD 0, (runs.map (fun r => r.last)).getLastD 0⟩]

/-- The accumulation of a hide that has runs on the line (R47 to R49). -/
def accumulate (x : LineInput) (mine : List Run) (h : Hide) : Hide :=
  let filled := holeFill x.settings.fill x.widths x.runs mine
  { h with
    widthSum := h.widthSum + (mine.map (fun r => r.width)).sum + filled
    fillSum := h.fillSum + filled
    covered := h.covered + 1
    lastLine := x.line
    gap := x.settings.closeGap
    left := mine.foldl (fun m r => min m r.first) h.left
    right := mine.foldl (fun m r => max m r.last) h.right
    lastRuns := keptRuns mine
    flags := addFlagIf (mine.any (fun r => decide (r.first ≤ 0 ∧ 0 ≤ r.last)
      || decide (r.first ≤ 1023 ∧ 1023 ≤ r.last))) h.flags .edge }

/-! ### The spot search (chapter 6) -/

/-- Lead-in count (R90). -/
def leadInCount (c : Settings) : Nat := ceilDiv (c.leadIn * 1000) (pitch c)

/-- Needed streak (R90). -/
def neededStreak (c : Settings) : Nat := ceilDiv ((c.face + c.slip) * 1000) (pitch c)

/-- Does a run cover the whole footprint, none of it a gap that the cap joined (R93)? -/
def coversFootprint (widths : List Nat) (first width : Nat) (r : Run) : Bool :=
  decide (r.first ≤ first ∧ first + width - 1 ≤ r.last) && decide (cellsWidth widths r.first r.last ≤ r.width)

/-- Is the footprint of the hide's head covered on the line (R93)? -/
def footprintCovered (x : LineInput) (lane : Option (Fin 4)) (mine : List Run) : Bool :=
  match lane.bind (fun l => x.settings.laneHead.get l) with
  | none => false
  | some h => mine.any (coversFootprint x.widths (x.settings.footFirst.get h) (x.settings.footWidth.get h))

/-- A line taken in SEEK (R95). -/
def seekLine (need : Nat) (line firstLine : Count) (covered : Bool) : Spot :=
  if covered then ⟨if need = 1 then .found else .streak, line, 1⟩ else ⟨.seek, firstLine, 0⟩

/-- The line update of a spot part (R94 to R98); k is the number of lines since the first line. -/
def spotLine (leadIn need k : Nat) (line firstLine : Count) (covered : Bool) (p : Spot) : Spot :=
  match p.state with
  | .none => p
  | .found => p
  | .lead => if k < leadIn then p else seekLine need line firstLine covered
  | .seek => seekLine need line firstLine covered
  | .streak =>
      if covered then ⟨if p.length + 1 = need then .found else .streak, p.start, p.length + 1⟩
      else ⟨.seek, firstLine, 0⟩

/-- The Spot Finder visits one hide (R93). -/
def spotUpdate (x : LineInput) (mine : List Run) (h : Hide) : Hide :=
  { h with
    spot := spotLine (leadInCount x.settings) (neededStreak x.settings) (h.age x.line) x.line h.firstLine
      (footprintCovered x h.lane mine) h.spot }

/-- The spot part of a hide closes: every state but FOUND gives NOSPOT (R100, R101). -/
def closeSpot (h : Hide) : Hide := { h with flags := addFlagIf (!decide (h.spot.state = .found)) h.flags .noSpot }

/-! ### One hide of the table through steps 5 to 8 (R38) -/

/-- Why a hide is marked for close, if it is (R51, R52). -/
inductive CloseMark where
  | stays
  | gap
  | long
  deriving DecidableEq, Repr

/-- Steps 5 to 7 for a hide with these runs of the line (R47, R51, R52). -/
def stepHide (x : LineInput) (mine : List Run) (h : Hide) : Hide × CloseMark :=
  match mine with
  | [] =>
      let h' := { h with gap := h.gap - 1 }
      (h', if h'.gap = 0 then .gap else .stays)
  | _ :: _ =>
      let h' := accumulate x mine h
      if h'.covered = x.settings.maxLines then ({ h' with flags := addFlag h'.flags .long }, .long)
      else (h', .stays)

/-- Steps 5 to 8 for a hide: a hide marked for close has its spot part closed after its update (R100). -/
def lineOfHide (x : LineInput) (assigned : List (Run × Tag)) (h : Hide) : Hide × CloseMark :=
  let mine := (assigned.filter (fun a => decide (a.2 = h.tag))).map (fun a => a.1)
  let (h', mark) := stepHide x mine h
  let visited := spotUpdate x mine h'
  (if mark = .stays then visited else closeSpot visited, mark)

/-! ### The new shadow run list (R53) -/

/-- Join the stretches of a list sorted by start cell that share a cell. -/
def joinSpans (cur : Span) (l : List Span) : List Span :=
  match l with
  | [] => [cur]
  | t :: rest =>
      if t.first ≤ cur.last then joinSpans ⟨cur.first, max cur.last t.last⟩ rest else cur :: joinSpans t rest

/-- The new shadow run list from the stretches offered (R53). -/
def shadowList (offered : List Span) : List Span :=
  match sortBy (fun t => t.first) offered with
  | [] => []
  | t :: rest => (joinSpans t rest).take Config.shadowSize

/-- How many of the runs that could not open are kept in the shadow list (R46). -/
def keptInShadow (shadow : List Span) (notOpened : List Run) : Nat :=
  (notOpened.filter (fun r => shadow.any (fun t => decide (t.first ≤ r.first ∧ r.last ≤ t.last)))).length

/-! ### The line event (R38) -/

/-- What a line makes of the table: the hides that stay open and those marked for close, the next-tag counter,
the new shadow list, and the runs that could not open. -/
structure LineOutcome where
  staying   : List Hide
  closing   : List Hide
  nextTag   : Tag
  shadow    : List Span
  notOpened : List Run
  deriving DecidableEq, Repr

/-- Steps 1 to 9 of the line event (R38). -/
def lineOutcome (x : LineInput) (t : Htk) : LineOutcome :=
  let groups := resolvedGroups x.line t.table x.runs
  let start : Openings := ⟨mergedTable groups t.table, t.nextTag, [], []⟩
  let opened := (x.runs.map (fun r => (r, assignedTag groups t.table r))).foldl (placeRun x t.shadow) start
  let stepped := opened.table.map (lineOfHide x opened.assigned)
  let longRuns := (stepped.filter (fun h => decide (h.2 = .long))).flatMap (fun h => h.1.lastRuns)
  { staying := (stepped.filter (fun h => decide (h.2 = .stays))).map (fun h => h.1)
    closing := sortBy (fun h => h.tag.toNat)
      ((stepped.filter (fun h => !decide (h.2 = .stays))).map (fun h => h.1))
    nextTag := opened.nextTag
    shadow := shadowList (opened.notOpened.map Run.span ++ longRuns)
    notOpened := opened.notOpened }

/-- What the Hide Tracker reads for one run list. -/
def lineInput (line pos : Count) (runs : List Run) (s : State) : LineInput :=
  ⟨line, pos, runs, s.settings, s.lcn.widths, s.mdc.mode, s.tru.transit.map (fun e => e.tag)⟩

/-- One TABLE_FULL occurrence on a line on which a run could not open (R46). -/
def reportTableFull (line : Count) (o : LineOutcome) (s : State) : State :=
  match o.notOpened with
  | [] => s
  | _ :: _ =>
      occurrence .tableFull (.tableFull line o.notOpened.length (keptInShadow o.shadow o.notOpened)) s

/-- The Hide Tracker takes a run list (R38); it is discarded while the tracking mark is clear. -/
def trackLine (line pos : Count) (runs : List Run) (s : State) : State :=
  if s.htk.tracking then
    let o := lineOutcome (lineInput line pos runs s) s.htk
    handOnAll o.closing
      (reportTableFull line o
        { s with
          htk := { s.htk with table := o.staying, nextTag := o.nextTag, shadow := o.shadow, line := line } })
  else s

/-! ### Close-all (R55) -/

/-- The hides a close-all hands on: each gains the flags given, its spot part is closed, and they stand in
ascending tag order (R55, R101). -/
def closingHides (flags : FlagSet) (table : List Hide) : List Hide :=
  sortBy (fun h => h.tag.toNat) (table.map (fun h => closeSpot { h with flags := h.flags ||| flags }))

/-- A close-all: every open hide closes, the shadow run list is emptied and the tracking mark cleared (R55). -/
def closeAll (flags : FlagSet) (s : State) : State :=
  handOnAll (closingHides flags s.htk.table)
    { s with htk := { s.htk with table := [], shadow := [], tracking := false } }

end Sys2Proof.Machine
end

