-- ==== Sys2Proof/Machine/Conditioning.lean ====
section
/-! DEFINITION. The Line Conditioner (chapter 2): masking, run extraction, bridging, filtering, the cap, the
stuck-cell monitor, and the width and mask requests. -/

namespace Sys2Proof.Machine

/-! ### Masking (R22) -/

/-- The nearest cell below cell i that is not on the mask list (R22). -/
def nearestBelow (mask : List Nat) (i : Nat) : Option Nat :=
  match i with
  | 0 => none
  | k + 1 => if k ∈ mask then nearestBelow mask k else some k

/-- The nearest of the n cells from cell i upward that is not on the mask list (R22). -/
def nearestAbove (mask : List Nat) (i n : Nat) : Option Nat :=
  match n with
  | 0 => none
  | k + 1 => if i ∈ mask then nearestAbove mask (i + 1) k else some i

/-- The effective reading of a cell (R22). -/
def effective (mask : List Nat) (raw : Readings) (i : Nat) : Bool :=
  if i ∈ mask then
    match nearestBelow mask i, nearestAbove mask (i + 1) (Config.cells - (i + 1)) with
    | some l, some r => raw.getLsbD l && raw.getLsbD r
    | none, some r => raw.getLsbD r
    | some l, none => raw.getLsbD l
    | none, none => false
  else raw.getLsbD i

/-- The effective readings of cells 0 to 1023, in order. -/
def effectiveList (mask : List Nat) (raw : Readings) : List Bool :=
  (List.range Config.cells).map (effective mask raw)

/-! ### Runs (R25 to R29) -/

/-- Run extraction from cell i on, with the start of the run under way, if one is (R25). -/
def extractRuns (cells : List Bool) (i : Nat) (start : Option Nat) : List Span :=
  match cells, start with
  | [], none => []
  | [], some a => [⟨a, i - 1⟩]
  | true :: rest, none => extractRuns rest (i + 1) (some i)
  | true :: rest, some a => extractRuns rest (i + 1) (some a)
  | false :: rest, none => extractRuns rest (i + 1) none
  | false :: rest, some a => ⟨a, i - 1⟩ :: extractRuns rest (i + 1) none

/-- Bridging from a current run on (R26). -/
def bridgeFrom (bridge : Nat) (cur : Span) (runs : List Span) : List Span :=
  match runs with
  | [] => [cur]
  | r :: rest =>
      if r.first - cur.last - 1 ≤ bridge then bridgeFrom bridge ⟨cur.first, r.last⟩ rest
      else cur :: bridgeFrom bridge r rest

/-- Bridging (R26). -/
def bridgeRuns (bridge : Nat) (runs : List Span) : List Span :=
  match runs with
  | [] => []
  | r :: rest => bridgeFrom bridge r rest

/-- Minimum-run filtering (R27). -/
def filterRuns (minRun : Nat) (runs : List Span) : List Span :=
  runs.filter (fun r => decide (minRun ≤ r.last - r.first + 1))

/-- A stretch with its covered width (R29). -/
def measuredRun (widths : List Nat) (t : Span) : Run := ⟨t.first, t.last, cellsWidth widths t.first t.last⟩

/-- The cap of 64 runs: the 65th and later runs are joined into the 64th, whose covered width is the sum of
theirs (R28). -/
def capRuns (runs : List Run) : List Run :=
  if runs.length ≤ Config.runsPerLine then runs
  else
    let joined := runs.drop (Config.runsPerLine - 1)
    runs.take (Config.runsPerLine - 1) ++
      [⟨(joined.map (fun r => r.first)).headD 0, (joined.map (fun r => r.last)).getLastD 0,
        (joined.map (fun r => r.width)).sum⟩]

/-- Conditioning: the run list of a line (R21). -/
def runList (c : Settings) (l : Lcn) (raw : Readings) : List Run :=
  capRuns ((filterRuns c.minRun (bridgeRuns c.bridge (extractRuns (effectiveList l.mask raw) 0 none))).map
    (measuredRun l.widths))

/-! ### The stuck-cell monitor (R30, R31) -/

/-- The stuck counters from cell i on after an ACCEPTED line (R30). -/
def countCells (raw : Readings) (i : Nat) (counters : List Nat) : List Nat :=
  match counters with
  | [] => []
  | c :: rest => (if raw.getLsbD i then bump c else 0) :: countCells raw (i + 1) rest

/-- A cell becomes stuck: its mark is set, it may be auto-masked, and CELL_STUCK is submitted (R31). -/
def cellStuck (line : Count) (cell counter : Nat) (s : State) : State :=
  let added := s.settings.autoMask && !decide (cell ∈ s.lcn.mask) && decide (s.lcn.mask.length < Config.maskSize)
  let mask := if added then insertIndex cell s.lcn.mask else s.lcn.mask
  submit (.cellStuck cell line counter (decide (cell ∈ mask)) mask.length)
    { s with lcn := { s.lcn with mask := mask, marked := insertIndex cell s.lcn.marked } }

/-- The examination of the counters, from cell i upward (R31). -/
def examineCells (line : Count) (i : Nat) (counters : List Nat) (s : State) : State :=
  match counters with
  | [] => s
  | c :: rest =>
      examineCells line (i + 1) rest
        (if s.settings.stuckLimit ≤ c ∧ i ∉ s.lcn.marked then cellStuck line i c s else s)

/-- The stuck monitor takes the raw readings of an ACCEPTED line (R30, R31). -/
def stuckMonitor (line : Count) (raw : Readings) (s : State) : State :=
  let counters := countCells raw 0 s.lcn.counters
  examineCells line 0 counters { s with lcn := { s.lcn with counters := counters } }

/-- The Line Conditioner takes a settled line (R17, R21): it conditions it, hands the run list to the Hide
Tracker and updates the stuck monitor; a HELD line leaves every counter unchanged (R30). -/
def conditionLine (line pos : Count) (raw : Readings) (mark : LineMark) (s : State) : State :=
  let tracked := trackLine line pos (runList s.settings s.lcn raw) s
  match mark with
  | .accepted => stuckMonitor line raw tracked
  | .held => tracked

/-! ### Width and mask requests (R19, R20, R23, R24, R33) -/

/-- Is the part in IDLE with no open hide? -/
def idleNoHide (s : State) : Bool := decide (s.mdc.mode = .idle) && s.htk.table.isEmpty

/-- WIDTHS LOAD (R19). -/
def serveWidthsLoad (start : BitVec 16) (widths : List (BitVec 16)) (s : State) : State × Answer :=
  let ws := widths.map (fun w => w.toNat)
  if idleNoHide s = false then (s, .refuse .busy)
  else if start.toNat + ws.length ≤ Config.cells ∧ ws.all (fun w => decide (1000 ≤ w ∧ w ≤ 8000)) = true then
    ({ s with
        lcn := { s.lcn with
          widths := s.lcn.widths.take start.toNat ++ ws ++ s.lcn.widths.drop (start.toNat + ws.length) } },
      .ok [])
  else (s, .refuse .range)

/-- WIDTHS READ (R20); a count outside 1 to 60 is answered RANGE (R205). -/
def serveWidthsRead (start : BitVec 16) (count : Byte) (s : State) : State × Answer :=
  if 1 ≤ count.toNat ∧ count.toNat ≤ 60 ∧ start.toNat + count.toNat ≤ Config.cells then
    (s, .ok (((s.lcn.widths.drop start.toNat).take count.toNat).flatMap (field 2)))
  else (s, .refuse .range)

/-- MASK ADD (R23). -/
def serveMaskAdd (cell : BitVec 16) (s : State) : State × Answer :=
  let i := cell.toNat
  if s.mdc.mode ≠ .idle then (s, .refuse .busy)
  else if Config.cells ≤ i then (s, .refuse .range)
  else if i ∈ s.lcn.mask then (s, .ok [])
  else if Config.maskSize ≤ s.lcn.mask.length then (s, .refuse .full)
  else ({ s with lcn := { s.lcn with mask := insertIndex i s.lcn.mask } }, .ok [])

/-- MASK DROP (R24, R33). -/
def serveMaskDrop (cell : BitVec 16) (s : State) : State × Answer :=
  let i := cell.toNat
  if s.mdc.mode ≠ .idle then (s, .refuse .busy)
  else if Config.cells ≤ i then (s, .refuse .range)
  else if i ∈ s.lcn.mask then
    ({ s with
        lcn := { s.lcn with
          mask := s.lcn.mask.filter (fun j => !decide (j = i))
          counters := s.lcn.counters.set i 0
          marked := s.lcn.marked.filter (fun j => !decide (j = i)) } },
      .ok [])
  else (s, .refuse .notFound)

/-- MASK LIST (section 2.7). -/
def serveMaskList (s : State) : State × Answer :=
  (s, .ok (field 1 s.lcn.mask.length ++ s.lcn.mask.flatMap (field 2)))

end Sys2Proof.Machine
end

