-- ==== Sys2Proof/Machine/Modes.lean ====
section
/-! DEFINITION. The Mode Controller (chapter 10), with what its changes ask of the Travel Counter, the Scan Line
Receiver, the Hide Tracker and the Calibration function. -/

namespace Sys2Proof.Machine

/-- Does the stall timer run in this measuring state while belt-run is asserted (R10)? -/
def Mode.watched (m : Mode) : Bool :=
  match m with
  | .run | .pause | .calibrate => true
  | .idle | .fault => false

/-- The stall timer started from zero when it may run, and else stopped (R10): it runs towards the stall time
in force at this start. -/
def freshStallTimer (m : Mode) (beltRun : Bool) (stallTime : Nat) : Option Nat :=
  if m.watched && beltRun then some stallTime else none

/-- The measuring state changes; the stall timer follows it (R10, R168). -/
def enterMode (m : Mode) (cause : FaultCause) (s : State) : State :=
  { s with
    mdc := ⟨m, cause⟩
    tcu := { s.tcu with stallTimer := freshStallTimer m s.pins.beltRun s.settings.stallTime } }

/-- The next line number, 0 while the grid is absent (R9). -/
def nextLineNumber (s : State) : Count :=
  match s.tcu.grid with
  | none => 0
  | some g => g.nextLine

/-- The change of the measuring state and, last, its MODE record (R178). -/
def changeMode (m : Mode) (fault : FaultCause) (cause : ModeCause) (closed : Nat) (s : State) : State :=
  let entered := enterMode m fault s
  submit (.mode s.mdc.mode m cause entered.tcu.hwm (nextLineNumber entered) closed) entered

/-- A scan start at the Scan Line Receiver (R12). -/
def scanStart (s : State) : State :=
  { s with slr := { s.slr with scanning := true, outstanding := none, lastGood := 0#1024, badCount := 0 } }

/-- A scan end at the Scan Line Receiver: a frame partly received is discarded (R12). -/
def scanEnd (s : State) : State :=
  { s with slr := { s.slr with scanning := false, outstanding := none, gathered := [] } }

/-- The Hide Tracker at a grid start or restart (R57). -/
def trackingStart (s : State) : State := { s with htk := { s.htk with tracking := true, shadow := [] } }

/-- A grid start (R6), with the scan start and tracking mark it brings. -/
def gridStart (s : State) : State :=
  let first := s.tcu.hwm + asCount s.settings.lineInterval
  trackingStart (scanStart { s with tcu := { s.tcu with grid := some ⟨first, 0, first⟩ } })

/-- A grid restart (R7), with the scan start and tracking mark it brings. -/
def gridRestart (s : State) : State :=
  let n := nextLineNumber s
  let d := asCount s.settings.lineInterval
  let next := s.tcu.hwm + d
  trackingStart (scanStart { s with tcu := { s.tcu with grid := some ⟨next - n * d, n, next⟩ } })

/-- Does the measuring state scan? -/
def Mode.scans (m : Mode) : Bool :=
  match m with
  | .run | .calibrate => true
  | .idle | .pause | .fault => false

/-- Scanning and tracking end: any calibration in CALIBRATE is ended when asked (R84), scanning ends when it was
under way (R12), and the close-all follows with the flags given (R55). -/
def endMeasuring (flags : FlagSet) (s : State) : State :=
  let aborted := if s.mdc.mode = .calibrate then abortCalibration s else s
  let ended := if s.mdc.mode.scans then scanEnd aborted else aborted
  closeAll flags ended

/-- A fault request (R176): dropped in IDLE and FAULT. -/
def faultRequest (fault : FaultCause) (cause : ModeCause) (s : State) : State :=
  match s.mdc.mode with
  | .idle | .fault => s
  | .run | .pause | .calibrate =>
      changeMode .fault fault cause s.htk.table.length (endMeasuring (flagSet [.cut, .faulted]) s)

/-! ### Requests (R169) -/

/-- OK with the state after the request (R169, R205). -/
def modeAnswer (s : State) : State × Answer := (s, .ok [s.mdc.mode.code])

/-- START (R170). -/
def serveStart (s : State) : State × Answer :=
  if s.mdc.mode = .idle then modeAnswer (changeMode .run .none .start 0 (gridStart s))
  else (s, .refuse .busy)

/-- PAUSE (R171). -/
def servePause (s : State) : State × Answer :=
  if s.mdc.mode = .run then
    modeAnswer (changeMode .pause .none .pause s.htk.table.length (endMeasuring Flag.cut.only s))
  else (s, .refuse .busy)

/-- RESUME (R172). -/
def serveResume (s : State) : State × Answer :=
  if s.mdc.mode = .pause then modeAnswer (changeMode .run .none .resume 0 (gridRestart s))
  else (s, .refuse .busy)

/-- STOP (R173). -/
def serveStop (s : State) : State × Answer :=
  if s.mdc.mode.watched then
    modeAnswer (changeMode .idle .none .stop s.htk.table.length (endMeasuring Flag.cut.only s))
  else (s, .refuse .busy)

/-- CLEAR (R174). -/
def serveClear (s : State) : State × Answer :=
  if s.mdc.mode = .fault then modeAnswer (changeMode .idle .none .clear 0 s)
  else (s, .refuse .busy)

/-- CALIB (R78, R175). -/
def serveCalib (aRef : BitVec 32) (s : State) : State × Answer :=
  if s.mdc.mode ≠ .idle then (s, .refuse .busy)
  else if 100000 ≤ aRef.toNat ∧ aRef.toNat ≤ 10000000 then
    modeAnswer (changeMode .calibrate .none .calib 0 (gridStart { s with cal := .waiting aRef.toNat }))
  else (s, .refuse .range)

/-- The end of a calibration is taken (R83, R175), or dropped. -/
def calibrationEnds (s : State) : State :=
  if s.mdc.mode = .calibrate ∧ s.cal = .ending then
    changeMode .idle .none .calEnd s.htk.table.length
      { closeAll Flag.cut.only (scanEnd s) with cal := .none }
  else s

end Sys2Proof.Machine
end

