-- ==== Sys2Proof/Machine/Belt.lean ====
section
/-! DEFINITION. The Travel Counter and the Scan Line Receiver (chapter 1): encoder steps, the HWM advance, line
strobes, the stall timer, and the frames of the scan head. -/

namespace Sys2Proof.Machine

/-! ### Settled lines (R14, R15, R17) -/

/-- The position of a line of the grid, G₀ + n × D (section 0.7, R17). -/
def gridLinePos (line : Count) (s : State) : Count :=
  match s.tcu.grid with
  | none => line * asCount s.settings.lineInterval
  | some g => g.origin + line * asCount s.settings.lineInterval

/-- A settled line is handed to the Line Conditioner (R17). -/
def handOnLine (line : Count) (raw : Readings) (mark : LineMark) (s : State) : State :=
  conditionLine line (gridLinePos line s) raw mark s

/-- The Scan Line Receiver requests line n, which becomes the outstanding line (R14). -/
def requestLine (n : Count) (s : State) : State :=
  sendScan (lineRequestFrame n) { s with slr := { s.slr with outstanding := some n } }

/-- A line still outstanding at a strobe is settled as a bad line (R14): it is handed on as HELD, LINE_HELD is
submitted, and the bad-line count rises to at most 15. -/
def settleBadLine (m : Count) (s : State) : State :=
  let bad := min (s.slr.badCount + 1) 15
  let held := handOnLine m s.slr.lastGood .held { s with slr := { s.slr with outstanding := none } }
  let told := submit (.lineHeld m bad) held
  { told with slr := { told.slr with badCount := bad } }

/-- The scan is lost (R15): SCAN_LOST is submitted, and FAULT is asked for. When the line that was lost also
ended a calibration, the Mode Controller has two requests before it and may take either first (R84): the order
is a free value (log entry 6). -/
def scanLost (m : Count) (s : State) : State :=
  let told := submit (.scanLost m s.slr.badCount) s
  if told.mdc.mode = .calibrate ∧ told.cal = .ending then
    let counted := { told with openChoices := told.openChoices + 1 }
    faultRequest .scanLost .scanLost
      (if Config.endBeforeFault told.openChoices then calibrationEnds counted else counted)
  else faultRequest .scanLost .scanLost told

/-- A strobe for line n reaches the Scan Line Receiver (R14, R15). -/
def strobeArrives (n : Count) (s : State) : State :=
  if s.slr.scanning then
    match s.slr.outstanding with
    | none => requestLine n s
    | some m =>
        let settled := settleBadLine m s
        if settled.settings.badLimit ≤ settled.slr.badCount then scanLost m settled
        else requestLine n settled
  else s

/-! ### The HWM advance (R2, R4, R8) -/

/-- Does this HWM advance reach the next line position in a state that scans (R8)? -/
def lineDue (s : State) : Bool :=
  match s.tcu.grid with
  | none => false
  | some g => s.mdc.mode.scans && decide (g.nextPos = s.tcu.hwm)

/-- The Travel Counter issues the strobe for the next line and moves the grid on by one line (R8). -/
def lineAdvance (s : State) : State :=
  match s.tcu.grid with
  | none => s
  | some g =>
      strobeArrives g.nextLine
        { s with
          tcu := { s.tcu with
            grid := some { g with
              nextLine := g.nextLine + 1
              nextPos := g.nextPos + asCount s.settings.lineInterval } } }

/-- What can fall due at one HWM advance: the line strobe, the fire and miss positions of one head, and the
drops (R4). -/
inductive DueItem where
  | line
  | stamp (h : Fin 4)
  | drops
  deriving DecidableEq, Repr

/-- What falls due at this HWM. -/
def dueItems (s : State) : List DueItem :=
  (if lineDue s then [.line] else []) ++ (fours.filter (fun h => stampDue h s)).map .stamp
    ++ (if dropDue s then [.drops] else [])

/-- One of the due items is taken. -/
def takeItem (s : State) (i : DueItem) : State :=
  match i with
  | .line => lineAdvance s
  | .stamp h => stampAdvance h s
  | .drops => dropAdvance s

/-- The items due at one HWM value are taken one after another. Where more than one is due, the manual leaves
their order open and it is a free value (log entry 1). -/
def takeDue (s : State) : State :=
  match dueItems s with
  | [] => s
  | [i] => takeItem s i
  | items => (arrange (Config.advanceOrder s.openChoices) items).foldl takeItem
      { s with openChoices := s.openChoices + 1 }

/-- An HWM advance: the HWM rises by one count, and every held position is compared with it (R2, R4). -/
def hwmAdvance (s : State) : State := takeDue { s with tcu := { s.tcu with hwm := s.tcu.hwm + 1 } }

/-! ### Encoder steps (R1 to R3, R10) -/

/-- The depth of the belt below its HWM (R2). -/
def Tcu.depth (t : Tcu) : Nat := (t.hwm - t.position).toNat

/-- Every step restarts the stall timer from zero while it runs (R10). -/
def restartStallTimer (s : State) : State :=
  { s with tcu := { s.tcu with stallTimer := s.tcu.stallTimer.map (fun _ => s.settings.stallTime) } }

/-- A forward step (R1 to R3). -/
def stepForward (s : State) : State :=
  let moved := { s with tcu := { s.tcu with position := s.tcu.position + 1, direction := .forward } }
  if s.tcu.depth = 0 then hwmAdvance moved else moved

/-- A backward step (R1 to R3): at depth 2³¹ − 1 the position stays. -/
def stepBack (s : State) : State :=
  if s.tcu.depth = 2 ^ 31 - 1 then { s with tcu := { s.tcu with direction := .back } }
  else { s with tcu := { s.tcu with position := s.tcu.position - 1, direction := .back } }

/-- The direction that a change of the encoder inputs steps in, if it is a step (R1). -/
def decodeStep (a b a' b' : Bool) : Option Direction :=
  if a = a' ∧ b = b' then none
  else if a ≠ a' ∧ b ≠ b' then none
  else if (a = false ∧ b = false ∧ a' = true) ∨ (a = true ∧ b = false ∧ b' = true)
      ∨ (a = true ∧ b = true ∧ a' = false) ∨ (a = false ∧ b = true ∧ b' = false) then some .forward
  else some .back

/-- The encoder inputs change to new levels (R1). -/
def encoderChanges (a b : Bool) (s : State) : State :=
  let leveled := { s with pins := { s.pins with encoderA := a, encoderB := b } }
  match decodeStep s.pins.encoderA s.pins.encoderB a b with
  | none => leveled
  | some .forward => stepForward (restartStallTimer leveled)
  | some .back => stepBack (restartStallTimer leveled)

/-! ### The belt-run input and the stall timer (R10, R11) -/

/-- The belt-run input is asserted: the stall timer starts from zero in RUN, PAUSE or CALIBRATE (R10). An
assertion of an input already asserted is no change of it. -/
def beltRunAsserts (s : State) : State :=
  if s.pins.beltRun then s
  else
    { s with
      pins := { s.pins with beltRun := true }
      tcu := { s.tcu with stallTimer := freshStallTimer s.mdc.mode true s.settings.stallTime } }

/-- The belt-run input is deasserted: the stall timer stops (R10). -/
def beltRunDeasserts (s : State) : State :=
  { s with
    pins := { s.pins with beltRun := false }
    tcu := { s.tcu with stallTimer := none } }

/-- The stall timer expires (R11): STALL is submitted and FAULT is asked for. A stopped timer does not
expire. -/
def stallExpires (s : State) : State :=
  match s.tcu.stallTimer with
  | none => s
  | some time =>
      faultRequest .stall .stall
        (submit (.stall s.mdc.mode s.tcu.position s.tcu.hwm time)
          { s with tcu := { s.tcu with stallTimer := none } })

/-! ### Frames of the scan head (R13, R203, R209) -/

/-- The line number byte of a line frame. -/
def frameNumber (frame : List Byte) : Byte := (frame.drop 1).headD 0#8

/-- The bytes of a line frame that its CRC covers: the line number and the cell bytes (R209). -/
def frameBody (frame : List Byte) : List Byte := (frame.drop 1).take (lineFrameSize - 3)

/-- Is the frame's length that of a line frame, its start byte in place and its CRC right (R13, R209)? -/
def lineFrameGood (frame : List Byte) : Bool :=
  decide (frame.length = lineFrameSize) && decide (frame.head? = some scanStartByte)
    && decide (frame.drop (lineFrameSize - 2) = crcBytes (frameBody frame))

/-- The readings a line frame carries (R209). -/
def frameReadings (frame : List Byte) : Readings := readingsOf ((frameBody frame).drop 1)

/-- A line frame has arrived complete (R13). -/
def lineFrameArrives (frame : List Byte) (s : State) : State :=
  match s.slr.outstanding with
  | none => s
  | some n =>
      if lineFrameGood frame = true ∧ frameNumber frame = n.extractLsb' 0 8 then
        let raw := frameReadings frame
        handOnLine n raw .accepted
          { s with slr := { s.slr with outstanding := none, lastGood := raw, badCount := 0 } }
      else s

/-- A byte on the scan head link: skipped before a start byte, else gathered; the frame is complete when the
bytes of a line frame have arrived (R203, R209). -/
def scanByteArrives (b : Byte) (s : State) : State :=
  match s.slr.gathered with
  | [] => if b = scanStartByte then { s with slr := { s.slr with gathered := [b] } } else s
  | first :: rest =>
      let frame := first :: rest ++ [b]
      if frame.length = lineFrameSize then
        lineFrameArrives frame { s with slr := { s.slr with gathered := [] } }
      else { s with slr := { s.slr with gathered := frame } }

/-- The byte-gap timer of the scan head link reaches 5 ms: the frame being received is discarded (R203). -/
def scanGapExpires (s : State) : State := { s with slr := { s.slr with gathered := [] } }

end Sys2Proof.Machine
end

