-- ==== Sys2Proof/Machine/Operands.lean ====
section
/-! DEFINITION. The settings table as SET and GET see it (chapter 11): the ids, when each may be set, the range of
each, the checks of one setting against others, and the packing of each value in four bytes. -/

namespace Sys2Proof.Machine

/-- The settings of the table (section 11.4); a setting that exists per lane or head names it. -/
inductive Setting where
  | encoderStep
  | lineInterval
  | stallTime
  | badLimit
  | bridge
  | minRun
  | stuckLimit
  | autoMask
  | fill
  | closeGap
  | maxLines
  | leadIn
  | face
  | slip
  | gain
  | saleUnit
  | rounding
  | minArea
  | notice
  | attnThreshold
  | window (lane : Fin 4)
  | laneHead (lane : Fin 4)
  | stamping (lane : Fin 4)
  | dropDistance (lane : Fin 4)
  | gatePresent (lane : Fin 4)
  | divertMask (lane : Fin 4)
  | target (lane : Fin 4)
  | footFirst (head : Fin 4)
  | footWidth (head : Fin 4)
  | headDistance (head : Fin 4)
  deriving DecidableEq, Repr

/-- The place n mod 4, for an id in a group of four. -/
def placeIn (n : Nat) : Fin 4 := Fin.ofNat 4 n

/-- The setting an id names (section 11.4). -/
def settingOf (id : Byte) : Option Setting :=
  let n := id.toNat
  match n with
  | 1 => some .encoderStep
  | 2 => some .lineInterval
  | 3 => some .stallTime
  | 4 => some .badLimit
  | 5 => some .bridge
  | 6 => some .minRun
  | 7 => some .stuckLimit
  | 8 => some .autoMask
  | 9 => some .fill
  | 10 => some .closeGap
  | 11 => some .maxLines
  | 12 => some .leadIn
  | 13 => some .face
  | 14 => some .slip
  | 15 => some .gain
  | 16 => some .saleUnit
  | 17 => some .rounding
  | 18 => some .minArea
  | 19 => some .notice
  | 20 => some .attnThreshold
  | n =>
      if 32 ≤ n ∧ n ≤ 35 then some (.window (placeIn n))
      else if 36 ≤ n ∧ n ≤ 39 then some (.laneHead (placeIn n))
      else if 40 ≤ n ∧ n ≤ 43 then some (.stamping (placeIn n))
      else if 44 ≤ n ∧ n ≤ 47 then some (.dropDistance (placeIn n))
      else if 48 ≤ n ∧ n ≤ 51 then some (.gatePresent (placeIn n))
      else if 52 ≤ n ∧ n ≤ 55 then some (.divertMask (placeIn n))
      else if 56 ≤ n ∧ n ≤ 59 then some (.target (placeIn n))
      else if 64 ≤ n ∧ n ≤ 67 then some (.footFirst (placeIn n))
      else if 68 ≤ n ∧ n ≤ 71 then some (.footWidth (placeIn n))
      else if 72 ≤ n ∧ n ≤ 75 then some (.headDistance (placeIn n))
      else none

/-! ### When a setting may be set -/

/-- The "May be set" column (section 11.4). -/
inductive SetWhen where
  | anyState
  | idle
  | idleNoHide
  | idleNoTallies
  deriving DecidableEq, Repr

/-- When a setting may be set (section 11.4). -/
def Setting.when (x : Setting) : SetWhen :=
  match x with
  | .stallTime | .badLimit | .stuckLimit | .autoMask | .minArea | .notice | .attnThreshold
  | .stamping _ | .divertMask _ | .target _ => .anyState
  | .gatePresent _ => .idle
  | .saleUnit | .rounding => .idleNoTallies
  | .encoderStep | .lineInterval | .bridge | .minRun | .fill | .closeGap | .maxLines | .leadIn | .face | .slip
  | .gain | .window _ | .laneHead _ | .dropDistance _ | .footFirst _ | .footWidth _ | .headDistance _ => .idleNoHide

/-- IDLE, the transit list empty, every pack at 0 hides and every lot at 0 hides and 0 in flight (R67). -/
def tallyFree (s : State) : Bool :=
  decide (s.mdc.mode = .idle) && s.tru.transit.isEmpty
    && fours.all (fun i => decide ((s.tlu.packs.get i).hides = 0))
    && fours.all (fun i => decide ((s.tlu.lots.get i).hides = 0) && decide ((s.tlu.lots.get i).inFlight = 0))

/-- Does the state meet the condition (R187, step 2)? -/
def SetWhen.met (w : SetWhen) (s : State) : Bool :=
  match w with
  | .anyState => true
  | .idle => decide (s.mdc.mode = .idle)
  | .idleNoHide => decide (s.mdc.mode = .idle) && s.htk.table.isEmpty
  | .idleNoTallies => tallyFree s

/-! ### The value of a SET (R204) -/

/-- The lane window a value packs, if no bit falls outside its fields: enabled × 2²⁴ + first × 2¹² + last. -/
def windowOf (v : Nat) : Option Window :=
  if v < 2 ^ 25 then some ⟨decide (v / 2 ^ 24 = 1), v / 2 ^ 12 % 2 ^ 12, v % 2 ^ 12⟩ else none

/-- The value a lane window packs to (R204). -/
def windowValue (w : Window) : Nat := w.enabled.toNat * 2 ^ 24 + w.first * 2 ^ 12 + w.last

/-- The pack target a value packs, if its mode names one: mode × 2²⁴ + value (R204). -/
def targetOf (v : Nat) : Option (TargetMode × Nat) := (targetModeOf (v / 2 ^ 24)).map (fun m => (m, v % 2 ^ 24))

/-- The value a pack target packs to (R204). -/
def targetValue (t : Target) : Nat := t.mode.code.toNat * 2 ^ 24 + t.value

/-- A lane head as a value: 255 for none (section 11.4). -/
def laneHeadValue (o : Option (Fin 4)) : Nat :=
  match o with
  | none => 255
  | some h => h.val

/-- The lane head a value names (section 11.4). -/
def laneHeadOf (v : Nat) : Option (Option (Fin 4)) :=
  if h : v < 4 then some (some ⟨v, h⟩) else if v = 255 then some none else none

/-- The sale unit a code names (section 11.4). -/
def saleUnitOf (v : Nat) : Option SaleUnit :=
  match v with
  | 0 => some .quarterFoot
  | 1 => some .tenthFoot
  | 2 => some .decimetre
  | _ => none

/-- The rounding mode a code names (section 11.4). -/
def roundingOf (v : Nat) : Option Rounding :=
  match v with
  | 0 => some .nearest
  | 1 => some .down
  | _ => none

/-- The ON or OFF, YES or NO a code names (section 11.4). -/
def switchOf (v : Nat) : Option Bool :=
  match v with
  | 0 => some false
  | 1 => some true
  | _ => none

/-- The value held for a setting, in the form SET writes it (R189). -/
def Setting.value (x : Setting) (c : Settings) : Nat :=
  match x with
  | .encoderStep => c.encoderStep
  | .lineInterval => c.lineInterval
  | .stallTime => c.stallTime
  | .badLimit => c.badLimit
  | .bridge => c.bridge
  | .minRun => c.minRun
  | .stuckLimit => c.stuckLimit
  | .autoMask => c.autoMask.toNat
  | .fill => c.fill
  | .closeGap => c.closeGap
  | .maxLines => c.maxLines
  | .leadIn => c.leadIn
  | .face => c.face
  | .slip => c.slip
  | .gain => c.gain
  | .saleUnit => c.saleUnit.code.toNat
  | .rounding => c.rounding.code.toNat
  | .minArea => c.minArea
  | .notice => c.notice
  | .attnThreshold => c.attnThreshold
  | .window l => windowValue (c.window.get l)
  | .laneHead l => laneHeadValue (c.laneHead.get l)
  | .stamping l => (c.stamping.get l).toNat
  | .dropDistance l => c.dropDistance.get l
  | .gatePresent l => (c.gatePresent.get l).toNat
  | .divertMask l => (c.divertMask.get l).toNat
  | .target l => targetValue (c.target.get l)
  | .footFirst h => c.footFirst.get h
  | .footWidth h => c.footWidth.get h
  | .headDistance h => c.headDistance.get h

/-! ### The checks of one setting against others (R188) -/

/-- Is a drop distance far enough beyond a head distance (R188)? -/
def beyondHead (drop head : Nat) : Bool := decide (head + 100 ≤ drop)

/-- Do two windows share a cell? -/
def Window.overlaps (a b : Window) : Bool := decide (a.first ≤ b.last ∧ b.first ≤ a.last)

/-- The lane window check (R188): first cell not above last cell, and no cell shared by two enabled windows. -/
def windowFits (c : Settings) (lane : Fin 4) (w : Window) : Bool :=
  decide (w.first ≤ w.last)
    && (!w.enabled || fours.all (fun i =>
      decide (i = lane) || !(c.window.get i).enabled || !w.overlaps (c.window.get i)))

/-- Every lane that names head h keeps its drop distance beyond this head distance (R188). -/
def headDistanceFits (c : Settings) (h : Fin 4) (mm : Nat) : Bool :=
  fours.all (fun i => !decide (c.laneHead.get i = some h) || beyondHead (c.dropDistance.get i) mm)

/-- A drop distance against the distance of the head a lane names (R188). -/
def dropDistanceFits (c : Settings) (head : Option (Fin 4)) (mm : Nat) : Bool :=
  match head with
  | none => true
  | some h => beyondHead mm (c.headDistance.get h)

/-! ### The write of a setting (R187, steps 3 to 5) -/

/-- A number in its range, both ends included. -/
def inRange (v lo hi : Nat) : Option Nat := if lo ≤ v ∧ v ≤ hi then some v else none

/-- A value kept when a check holds (R188). -/
def checked {α : Type} (b : Bool) (x : α) : Option α := if b then some x else none

/-- The settings after a SET that passes the range and cross checks; none when it is refused with RANGE
(R187, R188). -/
def Setting.written (x : Setting) (v : Nat) (c : Settings) : Option Settings :=
  match x with
  | .encoderStep => do
      let v ← inRange v 50 2000
      checked (decide (v * c.lineInterval ≤ 20000)) { c with encoderStep := v }
  | .lineInterval => do
      let v ← inRange v 1 64
      checked (decide (c.encoderStep * v ≤ 20000)) { c with lineInterval := v }
  | .stallTime => do
      let v ← inRange v 100 10000
      some { c with stallTime := v }
  | .badLimit => do
      let v ← inRange v 1 15
      some { c with badLimit := v }
  | .bridge => do
      let v ← inRange v 0 7
      some { c with bridge := v }
  | .minRun => do
      let v ← inRange v 1 8
      some { c with minRun := v }
  | .stuckLimit => do
      let v ← inRange v 1000 65000
      some { c with stuckLimit := v }
  | .autoMask => do
      let b ← switchOf v
      some { c with autoMask := b }
  | .fill => do
      let v ← inRange v 0 63
      some { c with fill := v }
  | .closeGap => do
      let v ← inRange v 1 15
      some { c with closeGap := v }
  | .maxLines => do
      let v ← inRange v 16 8191
      some { c with maxLines := v }
  | .leadIn => do
      let v ← inRange v 0 500
      some { c with leadIn := v }
  | .face => do
      let v ← inRange v 10 80
      some { c with face := v }
  | .slip => do
      let v ← inRange v 0 100
      some { c with slip := v }
  | .gain => do
      let v ← inRange v 95000 105000
      some { c with gain := v }
  | .saleUnit => do
      let u ← saleUnitOf v
      some { c with saleUnit := u }
  | .rounding => do
      let r ← roundingOf v
      some { c with rounding := r }
  | .minArea => do
      let v ← inRange v 0 500000
      some { c with minArea := v }
  | .notice => do
      let v ← inRange v 0 6
      some { c with notice := v }
  | .attnThreshold => do
      let v ← inRange v 0 31
      some { c with attnThreshold := v }
  | .window l => do
      let w ← windowOf v
      checked (decide (w.first ≤ 1023 ∧ w.last ≤ 1023) && windowFits c l w) { c with window := c.window.set l w }
  | .laneHead l => do
      let o ← laneHeadOf v
      checked (dropDistanceFits c o (c.dropDistance.get l)) { c with laneHead := c.laneHead.set l o }
  | .stamping l => do
      let b ← switchOf v
      some { c with stamping := c.stamping.set l b }
  | .dropDistance l => do
      let v ← inRange v 500 20000
      checked (dropDistanceFits c (c.laneHead.get l) v) { c with dropDistance := c.dropDistance.set l v }
  | .gatePresent l => do
      let b ← switchOf v
      some { c with gatePresent := c.gatePresent.set l b }
  | .divertMask l =>
      checked (decide (v < 2 ^ 16) && decide (BitVec.ofNat 16 v &&& ~~~divertable = 0#16))
        { c with divertMask := c.divertMask.set l (BitVec.ofNat 16 v) }
  | .target l => do
      let (m, n) ← targetOf v
      checked (targetInRange m n) { c with target := c.target.set l (heldTarget m n) }
  | .footFirst h => do
      let v ← inRange v 0 1023
      checked (decide (v + c.footWidth.get h - 1 ≤ 1023)) { c with footFirst := c.footFirst.set h v }
  | .footWidth h => do
      let v ← inRange v 1 32
      checked (decide (c.footFirst.get h + v - 1 ≤ 1023)) { c with footWidth := c.footWidth.set h v }
  | .headDistance h => do
      let v ← inRange v 200 15000
      checked (headDistanceFits c h v) { c with headDistance := c.headDistance.set h v }

end Sys2Proof.Machine
end

