-- ==== Sys2Proof/Machine/Reports.lean ====
section
/-! DEFINITION. FETCH and REARM at the Report Queue (chapter 12). -/

namespace Sys2Proof.Machine

/-- ATTN evaluated against the depth and threshold as they stand (R200). -/
def evaluateAttn (s : State) : State :=
  { s with rpq := { s.rpq with attn := attnLevel s.settings.attnThreshold s.rpq.queue } }

/-- FETCH (R199). -/
def serveFetch (n : Byte) (s : State) : State × Answer :=
  if 1 ≤ n.toNat ∧ n.toNat ≤ 7 then
    let taken := s.rpq.queue.take n.toNat
    (evaluateAttn { s with rpq := { s.rpq with queue := s.rpq.queue.drop n.toNat, dropCount := 0 } },
      .ok (field 1 s.rpq.queue.length ++ field 2 s.rpq.dropCount ++ field 1 taken.length
        ++ taken.flatMap recordBytes))
  else (s, .refuse .range)

/-- The one-shot mark a record kind names: 05h is TABLE_FULL and 06h TRANSIT_FULL (R198, R207). -/
def oneShotOf (kind : Byte) : Option OneShotKind :=
  if kind = 0x05#8 then some .tableFull else if kind = 0x06#8 then some .transitFull else none

/-- REARM (R198). -/
def serveRearm (kind : Byte) (s : State) : State × Answer :=
  match oneShotOf kind with
  | none => (s, .refuse .range)
  | some k =>
      ({ s with rpq := s.rpq.setOneShot k ⟨true, 0⟩ }, .ok (field 2 (s.rpq.oneShot k).count))

end Sys2Proof.Machine
end

