-- ==== Sys2Proof/Machine/Resets.lean ====
section
/-! DEFINITION. The soft reset and the full reset: each block at the values its own chapter gives. -/

namespace Sys2Proof.Machine

/-- The Tally Unit after a soft reset: every pack is renewed as the next pack, and the rest is as after a full
reset (R167). -/
def Tlu.soften (u : Tlu) : Tlu := { Tlu.reset with packs := u.packs.map Pack.renew }

/-- The soft reset of every block but the Command Link (R192). -/
def softBlocks (s : State) : State :=
  { s with
    tcu := { s.tcu with grid := none, stallTimer := none }
    slr := Slr.reset
    lcn := { s.lcn with counters := List.replicate Config.cells 0, marked := [] }
    htk := { Htk.reset with nextTag := s.htk.nextTag }
    cal := .none
    stc := Quad.const Channel.reset
    tru := Tru.reset
    tlu := s.tlu.soften
    mdc := Mdc.reset
    rpq := Rpq.reset }

/-- The soft reset (R192): at the Command Link the link error count becomes 0 and every request but the RESET in
hand leaves the receive buffer; a telegram being gathered goes on. -/
def softReset (s : State) : State :=
  let soft := softBlocks s
  { soft with cml := { s.cml with linkErrors := 0, buffer := s.cml.buffer.take 1 } }

/-- The full reset (section 0.7): every block at its full-reset values, the strap sampled (R180). The levels of
the encoder and belt-run inputs are those outside; the reset input is asserted unless the reset follows
power-up. The queue of waiting commands and the model's own counter are no part of the machine. -/
def fullReset (cause : ResetCause) (strap : Bool) (s : State) : State :=
  { State.reset with
    pins := { s.pins with resetAsserted := decide (cause = .resetInput) }
    cml := Cml.reset strap
    openChoices := s.openChoices
    pending := s.pending }

end Sys2Proof.Machine
end

