-- ==== Sys2Proof/Machine/Link.lean ====
section
/-! DEFINITION. The Command Link (chapter 11): SET, GET, STATUS and RESET, the hand-over of a request to its owner,
the receive buffer, the reply, and the receiver. -/

namespace Sys2Proof.Machine

/-! ### SET and GET (R187, R189) -/

/-- What a written setting does at once: a gate no longer present is closed (R134), the ATTN threshold is
applied (R200), a pack target is checked against an OPEN pack (R153). -/
def afterWrite (x : Setting) (s : State) : State :=
  match x with
  | .gatePresent l => if s.settings.gatePresent.get l then s else closeGate l s
  | .attnThreshold => evaluateAttn s
  | .target l => targetCheck l s
  | .encoderStep | .lineInterval | .stallTime | .badLimit | .bridge | .minRun | .stuckLimit | .autoMask | .fill
  | .closeGap | .maxLines | .leadIn | .face | .slip | .gain | .saleUnit | .rounding | .minArea | .notice
  | .window _ | .laneHead _ | .stamping _ | .dropDistance _ | .divertMask _ | .footFirst _ | .footWidth _
  | .headDistance _ => s

/-- What an OK reply to SET adds for a pack target: the pack the new target closed (R187). -/
def setReport (x : Setting) (c : Settings) (s : State) : List Byte :=
  match x with
  | .target l => targetReport l (c.target.get l) s
  | .encoderStep | .lineInterval | .stallTime | .badLimit | .bridge | .minRun | .stuckLimit | .autoMask | .fill
  | .closeGap | .maxLines | .leadIn | .face | .slip | .gain | .saleUnit | .rounding | .minArea | .notice
  | .attnThreshold | .window _ | .laneHead _ | .stamping _ | .dropDistance _ | .gatePresent _ | .divertMask _
  | .footFirst _ | .footWidth _ | .headDistance _ => []

/-- SET (R187). -/
def serveSet (id : Byte) (value : BitVec 32) (s : State) : State × Answer :=
  match settingOf id with
  | none => (s, .refuse .notFound)
  | some x =>
      if x.when.met s then
        match x.written value.toNat s.settings with
        | none => (s, .refuse .range)
        | some c =>
            (afterWrite x { s with settings := c },
              .ok (id :: bytes32 (BitVec.ofNat 32 (x.value c)) ++ setReport x c s))
      else (s, .refuse .busy)

/-- GET (R189). -/
def serveGet (id : Byte) (s : State) : State × Answer :=
  match settingOf id with
  | none => (s, .refuse .notFound)
  | some x => (s, .ok (id :: bytes32 (BitVec.ofNat 32 (x.value s.settings))))

/-! ### STATUS (R191, R206) -/

/-- The one-shot mark and its count as STATUS carries them (R206, R208). -/
def oneShotBytes (m : OneShot) : List Byte := boolCode m.armed :: field 2 m.count

/-- The 33 bytes of the STATUS reply (R206). -/
def statusBytes (s : State) : List Byte :=
  [s.mdc.mode.code, s.mdc.cause.code] ++ bytes32 s.tcu.position ++ bytes32 s.tcu.hwm ++ [s.tcu.direction.code]
    ++ field 1 s.htk.table.length ++ field 1 s.htk.shadow.length ++ field 1 s.tru.transit.length
    ++ field 1 s.rpq.queue.length ++ field 2 s.rpq.dropCount
    ++ field 1 s.tlu.tickets.length ++ field 1 s.tlu.waiters.length
    ++ (s.stc.map (fun c => c.state.code)).toList
    ++ field 2 s.cml.linkErrors ++ oneShotBytes s.rpq.tableFull ++ oneShotBytes s.rpq.transitFull
    ++ field 2 s.lcn.marked.length

/-! ### Taking a request (R185, R186) -/

/-- A request is handed to its owner, which carries it out and answers (R186). -/
def serve (r : Request) (s : State) : State × Answer :=
  match r with
  | .status => (s, .ok (statusBytes s))
  | .set id value => serveSet id value s
  | .get id => serveGet id s
  | .widthsLoad first widths => serveWidthsLoad first widths s
  | .widthsRead first count => serveWidthsRead first count s
  | .maskAdd cell => serveMaskAdd cell s
  | .maskDrop cell => serveMaskDrop cell s
  | .maskList => serveMaskList s
  | .start => serveStart s
  | .pause => servePause s
  | .resume => serveResume s
  | .stop => serveStop s
  | .clear => serveClear s
  | .calib aRef => serveCalib aRef s
  | .fetch n => serveFetch n s
  | .rearm kind => serveRearm kind s
  | .ticket => serveTicket s
  | .packClose lane => servePackClose lane s
  | .packTarget lane mode value => servePackTarget lane mode value s
  | .lotOpen slot number mask => serveLotOpen slot number mask s
  | .lotClose slot => serveLotClose slot s
  | .lotRead slot => serveLotRead slot s
  | .headClear head => serveHeadClear (placeOf head) s
  | .reset => (softReset s, .ok [])
  | .unknown _ => (s, .refuse .unknown)
  | .badFormat _ => (s, .refuse .format)

/-- A telegram's request is carried out and its reply begins (R185). -/
def answer (t : Telegram) (s : State) : State :=
  let served := serve t.request s
  { served.1 with cml := { served.1.cml with reply := some (replyBytes t.request.kind t.tag served.2) } }

/-- The oldest request in the buffer is taken when no reply is being sent (R185). -/
def takeRequest (s : State) : State :=
  match s.cml.reply, s.cml.buffer with
  | none, t :: _ => answer t s
  | none, [] => s
  | some _, _ => s

/-- The link error count, one higher (R183). -/
def linkError (s : State) : State := { s with cml := { s.cml with linkErrors := bump s.cml.linkErrors } }

/-- A correct request telegram is offered to the receive buffer (R184): it takes a free place and is taken when
the transmit line is free, or it is discarded with a link error when both places are held. -/
def receive (t : Telegram) (s : State) : State :=
  if s.cml.buffer.length < Config.bufferSize then
    takeRequest { s with cml := { s.cml with buffer := s.cml.buffer ++ [t] } }
  else linkError s

/-- The last byte of the reply has been sent: the request's place is freed and the next request, if any, is taken
(R185). With no reply being sent there is nothing to complete. -/
def replyCompletes (s : State) : State :=
  match s.cml.reply with
  | none => s
  | some _ => takeRequest { s with cml := { s.cml with reply := none, buffer := s.cml.buffer.drop 1 } }

/-! ### The receiver (R182) -/

/-- Put the receiver in a framing state. -/
def setReceiver (r : Receiver) (s : State) : State := { s with cml := { s.cml with receiver := r } }

/-- A telegram is complete: the bytes are its length, kind, tag, payload and CRC (R182). -/
def telegramArrives (bytes : List Byte) (s : State) : State :=
  let body := bytes.take (bytes.length - 2)
  if bytes.drop (bytes.length - 2) = crcBytes body then
    match body with
    | _ :: kind :: tag :: payload => receive ⟨tag, parseRequest kind payload⟩ s
    | _ => s
  else linkError s

/-- A byte while the receiver gathers (R182): the first is the length. -/
def gatherByte (gathered : List Byte) (b : Byte) (s : State) : State :=
  match gathered with
  | [] =>
      if 2 ≤ b.toNat ∧ b.toNat ≤ 250 then setReceiver (.gathering [b]) s
      else linkError (setReceiver .hunting s)
  | length :: rest =>
      let bytes := length :: rest ++ [b]
      if bytes.length = length.toNat + 3 then telegramArrives bytes (setReceiver .hunting s)
      else setReceiver (.gathering bytes) s

/-- A byte arrives on the host line, its stop bit present or absent (R180, R182): a framing error ends the
telegram being gathered with a link error, and is skipped while hunting. -/
def hostByteArrives (b : Byte) (stopBit : Bool) (s : State) : State :=
  match s.cml.receiver with
  | .hunting => if stopBit = true ∧ b = telegramStart then setReceiver (.gathering []) s else s
  | .gathering bytes => if stopBit then gatherByte bytes b s else linkError (setReceiver .hunting s)

/-- The host byte-gap timer reaches 5 ms: the partial telegram ends with a link error (R182). The timer runs only
while the receiver gathers. -/
def byteGapExpires (s : State) : State :=
  match s.cml.receiver with
  | .hunting => s
  | .gathering _ => linkError (setReceiver .hunting s)

end Sys2Proof.Machine
end

