-- ==== Sys2Proof/Machine/Events.lean ====
section
/-! DEFINITION. The meanings of the commands that are events at the pins, the scan head link, the head links and the
lane outputs, of the end of a calibration, and of the resets. -/

namespace Sys2Proof.Machine

/-- ENCODER_STEP (R1). While the reset input is asserted the levels still change, and nothing moves (R203). -/
def execEncoderStep (a b : Bool) (s : State) : Result :=
  .next (if s.pins.resetAsserted then { s with pins := { s.pins with encoderA := a, encoderB := b } }
    else encoderChanges a b s)

/-- BELT_RUN_ASSERT (R10). While the reset input is asserted only the level changes (R203). -/
def execBeltRunAssert (s : State) : Result :=
  .next (if s.pins.resetAsserted then { s with pins := { s.pins with beltRun := true } } else beltRunAsserts s)

/-- BELT_RUN_DEASSERT (R10). While the reset input is asserted only the level changes (R203). -/
def execBeltRunDeassert (s : State) : Result :=
  .next (if s.pins.resetAsserted then { s with pins := { s.pins with beltRun := false } } else beltRunDeasserts s)

/-- STALL_TIMER_EXPIRY (R11). -/
def execStallTimerExpiry (s : State) : Result := unlessReset s stallExpires

/-- LINE_FRAME (R13). -/
def execLineFrame (frame : List Byte) (s : State) : Result := unlessReset s (lineFrameArrives frame)

/-- SCAN_LINK_GAP_TIMEOUT (R203). -/
def execScanLinkGapTimeout (s : State) : Result := unlessReset s scanGapExpires

/-- SCAN_LINK_BYTE (R203). -/
def execScanLinkByte (byte : BitVec 8) (s : State) : Result := unlessReset s (scanByteArrives byte)

/-- CAL_END (R83, R175). -/
def execCalEnd (s : State) : Result := unlessReset s calibrationEnds

/-- READY (R109, R111): discarded when its CRC is wrong. -/
def execReady (head : Fin 4) (tag crc : BitVec 16) (s : State) : Result :=
  unlessReset s (fun s => if crc = headCrc readyKind tag [] then acceptReady head tag s else s)

/-- DONE (R109, R113): discarded when its CRC is wrong. -/
def execDone (head : Fin 4) (tag crc : BitVec 16) (s : State) : Result :=
  unlessReset s (fun s => if crc = headCrc doneKind tag [] then acceptDone head tag s else s)

/-- FAULT_FRAME (R109, R115): discarded when its CRC is wrong. -/
def execFaultFrame (head : Fin 4) (tag : BitVec 16) (cause : BitVec 8) (crc : BitVec 16) (s : State) : Result :=
  unlessReset s (fun s => if crc = headCrc faultKind tag [cause] then acceptFault head tag cause s else s)

/-- HEAD_LINK_GAP_TIMEOUT (R203). -/
def execHeadLinkGapTimeout (head : Fin 4) (s : State) : Result := unlessReset s (headGapExpires head)

/-- HEAD_LINK_BYTE (R203, R209). -/
def execHeadLinkByte (head : Fin 4) (byte : BitVec 8) (s : State) : Result :=
  unlessReset s (headByteArrives head byte)

/-- ARM_TIMER_EXPIRY (R114). -/
def execArmTimerExpiry (head : Fin 4) (s : State) : Result := unlessReset s (armExpires head)

/-- PRINT_TIMER_EXPIRY (R114). -/
def execPrintTimerExpiry (head : Fin 4) (s : State) : Result := unlessReset s (printExpires head)

/-- GATE_PULSE_TIMER_EXPIRY (R134). -/
def execGatePulseTimerExpiry (lane : Fin 4) (s : State) : Result := unlessReset s (gatePulseExpires lane)

/-- PACK_CHANGE_TIMER_EXPIRY (R150). -/
def execPackChangeTimerExpiry (lane : Fin 4) (s : State) : Result := unlessReset s (packChangeExpires lane)

/-- FULL_RESET (section 0.7, R180, R203). -/
def execFullReset (cause : ResetCause) (strap : Bool) (s : State) : Result := .next (fullReset cause strap s)

/-- RESET_INPUT_RELEASE (R203): the values of the full reset stay in force, and the part works again. -/
def execResetInputRelease (s : State) : Result := .next { s with pins := { s.pins with resetAsserted := false } }

end Sys2Proof.Machine
end

