-- ==== Sys2Proof/Machine/Requests.lean ====
section
/-! DEFINITION. The meanings of the commands of the host line: its bytes, its timer, the end of a reply, and the
requests. A request command is the arrival of its complete and correct telegram: it is offered to the receive
buffer and taken at once when the transmit line is free (R184, R185; log entry 4). -/

namespace Sys2Proof.Machine

/-- HOST_BYTE (R182). -/
def execHostByte (byte : BitVec 8) (stopBit : Bool) (s : State) : Result :=
  unlessReset s (hostByteArrives byte stopBit)

/-- BYTE_GAP_TIMEOUT (R182). -/
def execByteGapTimeout (s : State) : Result := unlessReset s byteGapExpires

/-- REPLY_SENT (R185). -/
def execReplySent (s : State) : Result := unlessReset s replyCompletes

/-- REQUEST_UNKNOWN (R186): the request is what its kind and payload make it. -/
def execRequestUnknown (tag kind : BitVec 8) (payload : List Byte) (s : State) : Result :=
  unlessReset s (receive ⟨tag, parseRequest kind payload⟩)

/-- STATUS (R191). -/
def execStatus (tag : BitVec 8) (s : State) : Result := unlessReset s (receive ⟨tag, .status⟩)

/-- SET (R187). -/
def execSet (tag id : BitVec 8) (value : BitVec 32) (s : State) : Result :=
  unlessReset s (receive ⟨tag, .set id value⟩)

/-- GET (R189). -/
def execGet (tag id : BitVec 8) (s : State) : Result := unlessReset s (receive ⟨tag, .get id⟩)

/-- WIDTHS LOAD (R19); a list of no width or of more than 60 is FORMAT (R205). -/
def execWidthsLoad (tag : BitVec 8) (start : BitVec 16) (widths : List (BitVec 16)) (s : State) : Result :=
  unlessReset s (receive ⟨tag,
    if 1 ≤ widths.length ∧ widths.length ≤ 60 then .widthsLoad start widths else .badFormat 0x04#8⟩)

/-- WIDTHS READ (R20). -/
def execWidthsRead (tag : BitVec 8) (start : BitVec 16) (count : BitVec 8) (s : State) : Result :=
  unlessReset s (receive ⟨tag, .widthsRead start count⟩)

/-- MASK ADD (R23). -/
def execMaskAdd (tag : BitVec 8) (cell : BitVec 16) (s : State) : Result := unlessReset s (receive ⟨tag, .maskAdd cell⟩)

/-- MASK DROP (R24). -/
def execMaskDrop (tag : BitVec 8) (cell : BitVec 16) (s : State) : Result :=
  unlessReset s (receive ⟨tag, .maskDrop cell⟩)

/-- MASK LIST (section 2.7). -/
def execMaskList (tag : BitVec 8) (s : State) : Result := unlessReset s (receive ⟨tag, .maskList⟩)

/-- START (R170). -/
def execStart (tag : BitVec 8) (s : State) : Result := unlessReset s (receive ⟨tag, .start⟩)

/-- PAUSE (R171). -/
def execPause (tag : BitVec 8) (s : State) : Result := unlessReset s (receive ⟨tag, .pause⟩)

/-- RESUME (R172). -/
def execResume (tag : BitVec 8) (s : State) : Result := unlessReset s (receive ⟨tag, .resume⟩)

/-- STOP (R173). -/
def execStop (tag : BitVec 8) (s : State) : Result := unlessReset s (receive ⟨tag, .stop⟩)

/-- CLEAR (R174). -/
def execClear (tag : BitVec 8) (s : State) : Result := unlessReset s (receive ⟨tag, .clear⟩)

/-- CALIB (R78). -/
def execCalib (tag : BitVec 8) (aRef : BitVec 32) (s : State) : Result := unlessReset s (receive ⟨tag, .calib aRef⟩)

/-- FETCH (R199). -/
def execFetch (tag n : BitVec 8) (s : State) : Result := unlessReset s (receive ⟨tag, .fetch n⟩)

/-- REARM (R198). -/
def execRearm (tag kind : BitVec 8) (s : State) : Result := unlessReset s (receive ⟨tag, .rearm kind⟩)

/-- TICKET (R162). -/
def execTicket (tag : BitVec 8) (s : State) : Result := unlessReset s (receive ⟨tag, .ticket⟩)

/-- PACK CLOSE (R152). -/
def execPackClose (tag lane : BitVec 8) (s : State) : Result := unlessReset s (receive ⟨tag, .packClose lane⟩)

/-- PACK TARGET (R153). -/
def execPackTarget (tag lane mode : BitVec 8) (value : BitVec 32) (s : State) : Result :=
  unlessReset s (receive ⟨tag, .packTarget lane mode value⟩)

/-- LOT OPEN (R157). -/
def execLotOpen (tag slot : BitVec 8) (number : BitVec 32) (mask : BitVec 8) (s : State) : Result :=
  unlessReset s (receive ⟨tag, .lotOpen slot number mask⟩)

/-- LOT CLOSE (R158). -/
def execLotClose (tag slot : BitVec 8) (s : State) : Result := unlessReset s (receive ⟨tag, .lotClose slot⟩)

/-- LOT READ (R160). -/
def execLotRead (tag slot : BitVec 8) (s : State) : Result := unlessReset s (receive ⟨tag, .lotRead slot⟩)

/-- HEAD CLEAR (R117). -/
def execHeadClear (tag head : BitVec 8) (s : State) : Result := unlessReset s (receive ⟨tag, .headClear head⟩)

/-- RESET (R192). -/
def execReset (tag : BitVec 8) (s : State) : Result := unlessReset s (receive ⟨tag, .reset⟩)

end Sys2Proof.Machine
end

