-- ==== Sys2Proof/Machine/Dispatch.lean ====
section
/-! DEFINITION. The dispatch: one arm per command, each one direct call of its meaning. -/

namespace Sys2Proof.Machine

/-- What a command does to everything but the queue. -/
def exec (i : Instr) (s : State) : Host.Outcome State Fault Refusal :=
  match i with
  | .encoderStep a b => Sys2Proof.Machine.execEncoderStep a b s
  | .beltRunAssert => Sys2Proof.Machine.execBeltRunAssert s
  | .beltRunDeassert => Sys2Proof.Machine.execBeltRunDeassert s
  | .stallTimerExpiry => Sys2Proof.Machine.execStallTimerExpiry s
  | .lineFrame frame => Sys2Proof.Machine.execLineFrame frame s
  | .scanLinkGapTimeout => Sys2Proof.Machine.execScanLinkGapTimeout s
  | .calEnd => Sys2Proof.Machine.execCalEnd s
  | .ready head tag crc => Sys2Proof.Machine.execReady head tag crc s
  | .done head tag crc => Sys2Proof.Machine.execDone head tag crc s
  | .faultFrame head tag cause crc => Sys2Proof.Machine.execFaultFrame head tag cause crc s
  | .headLinkGapTimeout head => Sys2Proof.Machine.execHeadLinkGapTimeout head s
  | .armTimerExpiry head => Sys2Proof.Machine.execArmTimerExpiry head s
  | .printTimerExpiry head => Sys2Proof.Machine.execPrintTimerExpiry head s
  | .gatePulseTimerExpiry lane => Sys2Proof.Machine.execGatePulseTimerExpiry lane s
  | .packChangeTimerExpiry lane => Sys2Proof.Machine.execPackChangeTimerExpiry lane s
  | .hostByte byte stopBit => Sys2Proof.Machine.execHostByte byte stopBit s
  | .byteGapTimeout => Sys2Proof.Machine.execByteGapTimeout s
  | .replySent => Sys2Proof.Machine.execReplySent s
  | .requestUnknown tag kind payload => Sys2Proof.Machine.execRequestUnknown tag kind payload s
  | .status tag => Sys2Proof.Machine.execStatus tag s
  | .set tag id value => Sys2Proof.Machine.execSet tag id value s
  | .get tag id => Sys2Proof.Machine.execGet tag id s
  | .widthsLoad tag start widths => Sys2Proof.Machine.execWidthsLoad tag start widths s
  | .widthsRead tag start count => Sys2Proof.Machine.execWidthsRead tag start count s
  | .maskAdd tag cell => Sys2Proof.Machine.execMaskAdd tag cell s
  | .maskDrop tag cell => Sys2Proof.Machine.execMaskDrop tag cell s
  | .maskList tag => Sys2Proof.Machine.execMaskList tag s
  | .start tag => Sys2Proof.Machine.execStart tag s
  | .pause tag => Sys2Proof.Machine.execPause tag s
  | .resume tag => Sys2Proof.Machine.execResume tag s
  | .stop tag => Sys2Proof.Machine.execStop tag s
  | .clear tag => Sys2Proof.Machine.execClear tag s
  | .calib tag aRef => Sys2Proof.Machine.execCalib tag aRef s
  | .fetch tag n => Sys2Proof.Machine.execFetch tag n s
  | .rearm tag kind => Sys2Proof.Machine.execRearm tag kind s
  | .ticket tag => Sys2Proof.Machine.execTicket tag s
  | .packClose tag lane => Sys2Proof.Machine.execPackClose tag lane s
  | .packTarget tag lane mode value => Sys2Proof.Machine.execPackTarget tag lane mode value s
  | .lotOpen tag slot number mask => Sys2Proof.Machine.execLotOpen tag slot number mask s
  | .lotClose tag slot => Sys2Proof.Machine.execLotClose tag slot s
  | .lotRead tag slot => Sys2Proof.Machine.execLotRead tag slot s
  | .headClear tag head => Sys2Proof.Machine.execHeadClear tag head s
  | .reset tag => Sys2Proof.Machine.execReset tag s
  | .fullReset cause strap => Sys2Proof.Machine.execFullReset cause strap s
  | .scanLinkByte byte => Sys2Proof.Machine.execScanLinkByte byte s
  | .headLinkByte head byte => Sys2Proof.Machine.execHeadLinkByte head byte s
  | .resetInputRelease => Sys2Proof.Machine.execResetInputRelease s

end Sys2Proof.Machine
end

