-- ==== Sys2Proof/Safety.lean ====
section
/-! DEFINITION. What counts as a sound state of the part, in the terms statements use: the invariants the manual
states or implies, the shapes of a host link that is free and of one that answers, and several commands run one
after another. -/

namespace Sys2Proof.Machine

/-! ### The encoder (R1) -/

/-- The place of the encoder inputs in the forward sequence (0, 0), (1, 0), (1, 1), (0, 1) (R1). -/
def encoderPhase (a b : Bool) : Fin 4 :=
  match a, b with
  | false, false => 0
  | true, false => 1
  | true, true => 2
  | false, true => 3

/-! ### Positions on the HWM (R4) -/

/-- No entry of the transit list drops, and no stamp order is fired or missed, when the HWM becomes x. -/
abbrev State.noneDownstream (s : State) (x : Count) : Prop :=
  ∀ e ∈ s.tru.transit, reached x e.dropPos = false ∧ ∀ o ∈ e.stamp.toList, o.fire ≠ x ∧ o.missPos ≠ x

/-- No position held in the part is met when the HWM becomes x: no line is due either. -/
abbrev State.nothingDue (s : State) (x : Count) : Prop :=
  s.noneDownstream x ∧ ∀ g ∈ s.tcu.grid.toList, s.mdc.mode.scans = true → g.nextPos ≠ x

/-! ### Settings (section 11.4) -/

/-- A setting whose only check is a range: its id, whether it may be set only in IDLE with no open hide, its range,
and the write. -/
structure PlainNumber where
  id   : Byte
  idle : Bool
  low  : Nat
  high : Nat
  put  : Settings → Nat → Settings

/-- The numbers of the settings table that only a range checks, and whose SET does nothing else (section 11.4). -/
def plainNumbers : List PlainNumber :=
  [⟨3#8, false, 100, 10000, fun c v => { c with stallTime := v }⟩,
   ⟨4#8, false, 1, 15, fun c v => { c with badLimit := v }⟩,
   ⟨5#8, true, 0, 7, fun c v => { c with bridge := v }⟩,
   ⟨6#8, true, 1, 8, fun c v => { c with minRun := v }⟩,
   ⟨7#8, false, 1000, 65000, fun c v => { c with stuckLimit := v }⟩,
   ⟨9#8, true, 0, 63, fun c v => { c with fill := v }⟩,
   ⟨10#8, true, 1, 15, fun c v => { c with closeGap := v }⟩,
   ⟨11#8, true, 16, 8191, fun c v => { c with maxLines := v }⟩,
   ⟨12#8, true, 0, 500, fun c v => { c with leadIn := v }⟩,
   ⟨13#8, true, 10, 80, fun c v => { c with face := v }⟩,
   ⟨14#8, true, 0, 100, fun c v => { c with slip := v }⟩,
   ⟨15#8, true, 95000, 105000, fun c v => { c with gain := v }⟩,
   ⟨18#8, false, 0, 500000, fun c v => { c with minArea := v }⟩,
   ⟨19#8, false, 0, 6, fun c v => { c with notice := v }⟩]

/-! ### The host link -/

/-- The part listens to the host: the reset input is released, no reply is being sent and no request waits
(R184, R185). -/
abbrev State.listening (s : State) : Prop :=
  s.pins.resetAsserted = false ∧ s.cml.reply = none ∧ s.cml.buffer = []

/-- The Command Link with this request in hand and its reply begun (R185). -/
def Cml.answering (c : Cml) (tag : Byte) (r : Request) (a : Answer) : Cml :=
  { c with buffer := [⟨tag, r⟩], reply := some (replyBytes r.kind tag a) }

/-- The state in which this request is in hand with this answer, and nothing else has changed. -/
def State.answers (s : State) (tag : Byte) (r : Request) (a : Answer) : State :=
  { s with cml := s.cml.answering tag r a }

/-- Commands one after another, up to the first that answers no next state. -/
def execAll (l : List Instr) (s : State) : Result :=
  match l with
  | [] => .next s
  | c :: rest =>
      match exec c s with
      | .next t => execAll rest t
      | .fault r => .fault r
      | .refused r => .refused r

/-- The kind, tag and payload of the telegram that makes a host request (R205). -/
def hostTelegram (i : Instr) : Option (Byte × Byte × List Byte) :=
  match i with
  | .requestUnknown tag kind payload => some (kind, tag, payload)
  | .status tag => some (0x01#8, tag, [])
  | .set tag id value => some (0x02#8, tag, id :: bytes32 value)
  | .get tag id => some (0x03#8, tag, [id])
  | .widthsLoad tag first widths =>
      some (0x04#8, tag, bytes16 first ++ BitVec.ofNat 8 widths.length :: widths.flatMap bytes16)
  | .widthsRead tag first count => some (0x05#8, tag, bytes16 first ++ [count])
  | .maskAdd tag cell => some (0x06#8, tag, bytes16 cell)
  | .maskDrop tag cell => some (0x07#8, tag, bytes16 cell)
  | .maskList tag => some (0x08#8, tag, [])
  | .start tag => some (0x09#8, tag, [])
  | .pause tag => some (0x0A#8, tag, [])
  | .resume tag => some (0x0B#8, tag, [])
  | .stop tag => some (0x0C#8, tag, [])
  | .clear tag => some (0x0D#8, tag, [])
  | .calib tag aRef => some (0x0E#8, tag, bytes32 aRef)
  | .fetch tag n => some (0x0F#8, tag, [n])
  | .ticket tag => some (0x10#8, tag, [])
  | .packClose tag lane => some (0x11#8, tag, [lane])
  | .packTarget tag lane mode value => some (0x12#8, tag, lane :: mode :: bytes32 value)
  | .lotOpen tag slot number mask => some (0x13#8, tag, slot :: (bytes32 number ++ [mask]))
  | .lotClose tag slot => some (0x14#8, tag, [slot])
  | .lotRead tag slot => some (0x15#8, tag, [slot])
  | .rearm tag kind => some (0x16#8, tag, [kind])
  | .headClear tag head => some (0x17#8, tag, [head])
  | .reset tag => some (0x18#8, tag, [])
  | .encoderStep _ _ | .beltRunAssert | .beltRunDeassert | .stallTimerExpiry | .lineFrame _
  | .scanLinkGapTimeout | .calEnd | .ready _ _ _ | .done _ _ _ | .faultFrame _ _ _ _ | .headLinkGapTimeout _
  | .armTimerExpiry _ | .printTimerExpiry _ | .gatePulseTimerExpiry _ | .packChangeTimerExpiry _
  | .hostByte _ _ | .byteGapTimeout | .replySent | .fullReset _ _ | .scanLinkByte _ | .headLinkByte _ _
  | .resetInputRelease => none

/-- The line frame of line n with these readings: 132 bytes, cell i in bit i mod 8 of cell byte floor(i / 8)
(R209). -/
def lineFrameOf (n : Byte) (cells : Readings) : List Byte :=
  let body := n :: (List.range 128).map (fun k => cells.extractLsb' (8 * k) 8)
  scanStartByte :: (body ++ crcBytes body)

/-! ### A line taken, and the end of measuring -/

/-- The state after the Hide Tracker has taken this run list (R38): the table, shadow list and next tag are those of
the line outcome, a line on which a run could not open raises one TABLE_FULL occurrence (R46, R197; that it comes
before the closes, and what it counts as kept, are log entry 12), and the hides that close are handed on (R54); with
the tracking mark clear nothing has changed. -/
def State.lineTaken (line pos : Count) (runs : List Run) (s : State) : State :=
  let o := lineOutcome
    { line := line, pos := pos, runs := runs, settings := s.settings, widths := s.lcn.widths, mode := s.mdc.mode
      held := s.tru.transit.map (fun e => e.tag) } s.htk
  let inShadow (r : Run) : Bool := o.shadow.any (fun t => decide (t.first ≤ r.first ∧ r.last ≤ t.last))
  let full : Record := .tableFull line o.notOpened.length (o.notOpened.filter inShadow).length
  let mark := s.rpq.tableFull
  let told : Rpq :=
    if o.notOpened = [] then s.rpq
    else if mark.armed then { s.rpq.offer s.settings full with tableFull := ⟨false, mark.count⟩ }
    else { s.rpq with tableFull := ⟨false, min (mark.count + 1) 65535⟩ }
  if s.htk.tracking then
    handOnAll o.closing { s with
      htk := { s.htk with table := o.staying, shadow := o.shadow, nextTag := o.nextTag, line := line }
      rpq := told }
  else s

/-- The state after measuring has ended: scanning has ended when it was under way (R12), every open hide has been
handed on with the flags of the close-all (R55), the measuring state and the fault cause are those given, the stall
timer runs afresh in PAUSE alone and with belt-run asserted (R10), and the MODE record has been submitted last, with
the number of hides the close-all closed (R178). -/
def State.measuringEnded (flags : FlagSet) (mode : Mode) (fault : FaultCause) (cause : ModeCause) (s : State) : State :=
  let ended := { s.slr with scanning := false, outstanding := none, gathered := [] }
  let u := handOnAll (closingHides flags s.htk.table) { s with
    slr := if s.mdc.mode = .pause then s.slr else ended
    htk := { s.htk with table := [], shadow := [], tracking := false } }
  let line : Count := match s.tcu.grid with
    | none => 0
    | some g => g.nextLine
  { u with
    mdc := ⟨mode, fault⟩
    tcu := { s.tcu with
      stallTimer := if mode = .pause ∧ s.pins.beltRun = true then some s.settings.stallTime else none }
    rpq := u.rpq.offer u.settings (.mode s.mdc.mode mode cause s.tcu.hwm line s.htk.table.length) }

/-! ### Invariants -/

/-- The settings that exist once lie in their ranges, and the pitch in its limit (section 11.4, R5, R188). -/
abbrev Settings.numbersValid (c : Settings) : Prop :=
  (50 ≤ c.encoderStep ∧ c.encoderStep ≤ 2000 ∧ 1 ≤ c.lineInterval ∧ c.lineInterval ≤ 64
    ∧ c.encoderStep * c.lineInterval ≤ 20000)
  ∧ (100 ≤ c.stallTime ∧ c.stallTime ≤ 10000 ∧ 1 ≤ c.badLimit ∧ c.badLimit ≤ 15)
  ∧ (c.bridge ≤ 7 ∧ 1 ≤ c.minRun ∧ c.minRun ≤ 8 ∧ 1000 ≤ c.stuckLimit ∧ c.stuckLimit ≤ 65000)
  ∧ (c.fill ≤ 63 ∧ 1 ≤ c.closeGap ∧ c.closeGap ≤ 15 ∧ 16 ≤ c.maxLines ∧ c.maxLines ≤ 8191)
  ∧ (c.leadIn ≤ 500 ∧ 10 ≤ c.face ∧ c.face ≤ 80 ∧ c.slip ≤ 100)
  ∧ (95000 ≤ c.gain ∧ c.gain ≤ 105000 ∧ c.minArea ≤ 500000 ∧ c.notice ≤ 6 ∧ c.attnThreshold ≤ 31)

/-- A pack target in the range of its mode (R153). -/
abbrev Target.valid (t : Target) : Prop :=
  (t.mode = .count ∧ 1 ≤ t.value ∧ t.value ≤ 999) ∨ (t.mode = .area ∧ 1 ≤ t.value ∧ t.value ≤ 9999999)
    ∨ (t.mode = .none ∧ t.value = 0)

/-- A lane's settings lie in their ranges, its drop distance far enough beyond the head it names (R188). -/
abbrev Settings.laneValid (c : Settings) (i : Fin 4) : Prop :=
  ((c.window.get i).first ≤ (c.window.get i).last ∧ (c.window.get i).last ≤ 1023)
  ∧ (500 ≤ c.dropDistance.get i ∧ c.dropDistance.get i ≤ 20000)
  ∧ c.divertMask.get i &&& ~~~divertable = 0#16
  ∧ (∀ h ∈ (c.laneHead.get i).toList, c.headDistance.get h + 100 ≤ c.dropDistance.get i)
  ∧ (c.target.get i).valid

/-- Two windows that are both enabled share no cell (R188). -/
abbrev windowsApart (a b : Window) : Prop :=
  a.enabled = true → b.enabled = true → a.last < b.first ∨ b.last < a.first

/-- A head's settings lie in their ranges, its footprint on the scan line (R88, R188). -/
abbrev Settings.headValid (c : Settings) (h : Fin 4) : Prop :=
  (200 ≤ c.headDistance.get h ∧ c.headDistance.get h ≤ 15000)
  ∧ (1 ≤ c.footWidth.get h ∧ c.footWidth.get h ≤ 32 ∧ c.footFirst.get h + c.footWidth.get h ≤ 1024)

/-- Every setting lies in its range, and every check of one setting against others holds (section 11.4, R188). -/
abbrev Settings.valid (c : Settings) : Prop :=
  c.numbersValid ∧ (∀ i : Fin 4, c.laneValid i) ∧ (∀ h : Fin 4, c.headValid h)
    ∧ ∀ i j : Fin 4, i ≠ j → windowsApart (c.window.get i) (c.window.get j)

/-- The marks that follow the measuring state stand as the table of section 10.1 and R10, R57, R77 and R168 say;
while the reset input is asserted the state is IDLE (R203). -/
abbrev State.marksAgree (s : State) : Prop :=
  (s.mdc.cause = .none ↔ s.mdc.mode ≠ .fault)
  ∧ s.slr.scanning = s.mdc.mode.scans
  ∧ s.htk.tracking = s.mdc.mode.scans
  ∧ (s.mdc.mode.scans = true → s.tcu.grid.isSome = true)
  ∧ (s.mdc.mode.scans = false → s.slr.outstanding = none ∧ s.htk.table = [] ∧ s.htk.shadow = [])
  ∧ (s.cal = .none ↔ s.mdc.mode ≠ .calibrate)
  ∧ s.tcu.stallTimer.isSome = (s.mdc.mode.watched && s.pins.beltRun)
  ∧ (s.pins.resetAsserted = true → s.mdc.mode = .idle)

/-- The belt lies less than 2³¹ counts below its HWM (R2). -/
abbrev State.depthBounded (s : State) : Prop := (s.tcu.hwm - s.tcu.position).toNat < 2 ^ 31

/-- Every collection holds no more than the manual gives it and every stopping counter is at most 65535; the
records above the 28th of the queue are of level 6 or 7 (R195); a reply is being sent exactly while the buffer
holds a request (R185); every open hide has 1 to 8 last runs and 1 to 16 pieces (R35); the mask list and the
marked cells rise and name cells (R23, R33), and every cell width lies in its range (R18). -/
abbrev State.withinCapacity (s : State) : Prop :=
  (s.htk.table.length ≤ 16 ∧ s.htk.shadow.length ≤ 16 ∧ s.tru.transit.length ≤ 24)
  ∧ (s.rpq.queue.length ≤ 32 ∧ ∀ r ∈ s.rpq.queue.drop 28, 6 ≤ r.level)
  ∧ (s.tlu.tickets.length ≤ 8 ∧ s.tlu.waiters.length ≤ 8)
  ∧ (s.cml.buffer.length ≤ 2 ∧ s.cml.reply.isSome = !s.cml.buffer.isEmpty)
  ∧ (s.lcn.mask.length ≤ 32 ∧ s.lcn.widths.length = 1024 ∧ s.lcn.counters.length = 1024)
  ∧ (s.lcn.mask.Pairwise (· < ·) ∧ s.lcn.marked.Pairwise (· < ·))
  ∧ ((∀ i ∈ s.lcn.mask, i < 1024) ∧ (∀ i ∈ s.lcn.marked, i < 1024) ∧ ∀ w ∈ s.lcn.widths, 1000 ≤ w ∧ w ≤ 8000)
  ∧ s.slr.badCount ≤ 15
  ∧ (s.rpq.dropCount ≤ 65535 ∧ s.rpq.tableFull.count ≤ 65535 ∧ s.rpq.transitFull.count ≤ 65535
    ∧ s.cml.linkErrors ≤ 65535)
  ∧ (∀ c ∈ s.lcn.counters, c ≤ 65535)
  ∧ (∀ h ∈ s.htk.table, (1 ≤ h.lastRuns.length ∧ h.lastRuns.length ≤ 8) ∧ 1 ≤ h.pieces ∧ h.pieces ≤ 16)
  ∧ (∀ i : Fin 4, s.tru.diverts.get i ≤ 65535 ∧ (s.tlu.packs.get i).hides ≤ 999
      ∧ (s.tlu.packs.get i).scrap ≤ 65535)

/-- The tags held by the open hide table and the transit list. -/
def State.heldTags (s : State) : List Tag :=
  s.htk.table.map (fun h => h.tag) ++ s.tru.transit.map (fun e => e.tag)

/-- No tag is held twice, and tag 0 names no hide and is never next (R36). -/
abbrev State.tagsDistinct (s : State) : Prop :=
  s.heldTags.Nodup ∧ 0#16 ∉ s.heldTags ∧ s.htk.nextTag ≠ 0#16

/-- A channel's fields pair with its state as the table of R108 gives. -/
abbrev Channel.paired (c : Channel) : Prop :=
  c.armTimer = decide (c.state = .arming)
  ∧ c.printTimer = decide (c.state = .printing)
  ∧ c.tag.isSome = (decide (c.state = .arming) || decide (c.state = .armed) || decide (c.state = .printing))
  ∧ (c.detached = true → c.state = .printing)

/-- Is the entry's order in hand on its head's channel, as the table of R108 pairs them? -/
abbrev orderPaired (s : State) (e : Entry) : Prop :=
  ∀ o ∈ e.stamp.toList,
    ((s.stc.get o.head).state = .arming ∧ (s.stc.get o.head).tag = some e.tag ↔ o.state = .arming)
    ∧ ((s.stc.get o.head).state = .armed ∧ (s.stc.get o.head).tag = some e.tag ↔ o.state = .armed)
    ∧ ((s.stc.get o.head).state = .printing ∧ (s.stc.get o.head).tag = some e.tag
        ∧ (s.stc.get o.head).detached = false ↔ o.state = .firing)

/-- The order in hand on a channel that is not printing a detached order is in the transit list (R108). -/
abbrev handHeld (s : State) (h : Fin 4) : Prop :=
  (s.stc.get h).tag.isSome = true → (s.stc.get h).detached = false →
    ∃ e ∈ s.tru.transit, (s.stc.get h).tag = some e.tag ∧ e.stamp.map (fun o => o.head) = some h

/-- Every channel and every stamp order pair as the table of R108 gives. -/
abbrev State.channelsPaired (s : State) : Prop :=
  (∀ h : Fin 4, (s.stc.get h).paired ∧ handHeld s h) ∧ ∀ e ∈ s.tru.transit, orderPaired s e

/-- The tally's accounts agree: every in-flight count is the number of transit entries that name the slot (R154);
a FREE slot holds nothing; a lot waits exactly while its mark is set, and is then CLOSING with nothing in flight
(R159); a pack waits exactly while it is in WAIT, with its hold line asserted and its cause set (R148, R151); nobody
waits twice, and somebody waits only while the store holds 8 tickets (R163). -/
abbrev State.tallyAgrees (s : State) : Prop :=
  (∀ i : Fin 4, (s.tlu.lots.get i).inFlight = (s.tru.transit.filter (fun e => e.lots.get i)).length
    ∧ ((s.tlu.lots.get i).state = .free → s.tlu.lots.get i = Lot.freeSlot)
    ∧ (Waiter.lot i ∈ s.tlu.waiters ↔ (s.tlu.lots.get i).mark = true)
    ∧ ((s.tlu.lots.get i).mark = true → (s.tlu.lots.get i).state = .closing ∧ (s.tlu.lots.get i).inFlight = 0))
  ∧ (∀ i : Fin 4, (Waiter.pack i ∈ s.tlu.waiters ↔ (s.tlu.packs.get i).state = .wait)
    ∧ s.tlu.holdLine.get i = decide ((s.tlu.packs.get i).state = .wait)
    ∧ ((s.tlu.packs.get i).cause = .none ↔ (s.tlu.packs.get i).state = .opened))
  ∧ s.tlu.waiters.Nodup ∧ s.tlu.tickets.length ≤ 8 ∧ (s.tlu.waiters ≠ [] → s.tlu.tickets.length = 8)

/-- Every invariant together. -/
abbrev State.sound (s : State) : Prop :=
  s.settings.valid ∧ s.marksAgree ∧ s.depthBounded ∧ s.withinCapacity ∧ s.tagsDistinct ∧ s.channelsPaired
    ∧ s.tallyAgrees

end Sys2Proof.Machine
end

