-- ==== Sys2Proof/Certificates/Slice0/Obligations.lean ====
section
/-! DEFINITION. The statements for the provers, each one definition of a proposition. A statement of a command's
result concludes that exec answers next with the state the rules give; where that state is written out in full,
everything it does not name is unchanged. -/

section

open Sys2Proof Sys2Proof.Machine

/-! ### The queue of commands -/

/-- A step runs the command at the front of the queue on the state with the rest of the queue (the queue is the
model's interface, log entry 5). -/
def Obligations.StepRunsTheFrontCommand : Prop :=
  ∀ (c : Instr) (s : State), step { s with pending := c :: s.pending } = exec c s

/-- Every command answers a next state in every state, and leaves the queue of waiting commands alone. That nothing
ends in a fault or a refusal is the model's reading of a manual that names no event after which the part stops (log
entry 25, DEDUCED); the queue is the model's interface (log entry 5, DESIGN CHOICE). -/
def Obligations.EveryCommandCompletes : Prop :=
  ∀ (c : Instr) (s : State), ∃ t, exec c s = .next t ∧ t.pending = s.pending

/-! ### Belt travel (chapter 1) -/

/-- An encoder change that advances no position: one that is no step changes the levels only; a backward step takes 1
from the position, but for its stop at depth 2³¹ − 1; a forward step below the HWM adds 1 to it; a forward step at
depth 0 moves position and HWM together. Every step sets the direction and restarts a running stall timer (R1, R2,
R3, R10). -/
def Obligations.EncoderStepMovesTheBelt : Prop :=
  ∀ (a b : Bool) (s : State), s.pins.resetAsserted = false →
    let turn := encoderPhase a b - encoderPhase s.pins.encoderA s.pins.encoderB
    let depth := (s.tcu.hwm - s.tcu.position).toNat
    let levels := { s.pins with encoderA := a, encoderB := b }
    let timer := s.tcu.stallTimer.map (fun _ => s.settings.stallTime)
    (turn = 0 ∨ turn = 2 → exec (.encoderStep a b) s = .next { s with pins := levels })
    ∧ (turn = 3 → exec (.encoderStep a b) s = .next
        { s with
          pins := levels
          tcu := { s.tcu with
            position := if depth = 2 ^ 31 - 1 then s.tcu.position else s.tcu.position - 1
            direction := .back
            stallTimer := timer } })
    ∧ (turn = 1 → depth ≠ 0 → exec (.encoderStep a b) s = .next
        { s with
          pins := levels
          tcu := { s.tcu with position := s.tcu.position + 1, direction := .forward, stallTimer := timer } })
    ∧ (turn = 1 → depth = 0 → s.nothingDue (s.tcu.hwm + 1) → exec (.encoderStep a b) s = .next
        { s with
          pins := levels
          tcu := { s.tcu with
            position := s.tcu.position + 1
            hwm := s.tcu.hwm + 1
            direction := .forward
            stallTimer := timer } })

/-- The HWM advance that reaches the next line position in a state that scans, with no line outstanding, requests that
line of the scan head and moves the grid on by one line; and so does its line strobe whatever else that advance makes
due (R8, R14, R209; that a line falls due at the advance that reaches it, and that the grid moves on within that
strobe, are log entries 17 and 19). -/
def Obligations.LinePositionRequestsItsLine : Prop :=
  (∀ (a b : Bool) (s : State) (g : Grid), s.pins.resetAsserted = false →
    encoderPhase a b - encoderPhase s.pins.encoderA s.pins.encoderB = 1 →
    s.tcu.position = s.tcu.hwm → s.mdc.mode.scans = true → s.slr.scanning = true → s.slr.outstanding = none →
    s.tcu.grid = some g → g.nextPos = s.tcu.hwm + 1 → s.noneDownstream (s.tcu.hwm + 1) →
    let number : Byte := g.nextLine.extractLsb' 0 8
    exec (.encoderStep a b) s = .next
      { s with
        pins := { s.pins with encoderA := a, encoderB := b }
        tcu := { s.tcu with
          position := s.tcu.position + 1
          hwm := s.tcu.hwm + 1
          direction := .forward
          stallTimer := s.tcu.stallTimer.map (fun _ => s.settings.stallTime)
          grid := some { g with
            nextLine := g.nextLine + 1
            nextPos := g.nextPos + BitVec.ofNat 32 s.settings.lineInterval } }
        slr := { s.slr with
          outstanding := some g.nextLine
          sent := s.slr.sent ++ [[0x5A#8, number] ++ bytes16 (crc16 [number])] } })
  ∧ ∀ (s : State) (g : Grid), s.slr.scanning = true → s.slr.outstanding = none → s.tcu.grid = some g →
    let number : Byte := g.nextLine.extractLsb' 0 8
    lineAdvance s =
      { s with
        tcu := { s.tcu with grid := some { g with
          nextLine := g.nextLine + 1, nextPos := g.nextPos + BitVec.ofNat 32 s.settings.lineInterval } }
        slr := { s.slr with
          outstanding := some g.nextLine
          sent := s.slr.sent ++ [[0x5A#8, number] ++ bytes16 (crc16 [number])] } }

/-- The advance that reaches the next line position, and nothing else, is a line strobe. A strobe that finds line m
outstanding, whatever else that advance makes due, settles it as a bad line: it is taken by the tracker first,
with the last good readings and at its own position, and only then is LINE_HELD submitted with the raised bad-line
count; the stuck counters stay. Below the bad limit the next line is requested (R14, R17, R30). The bad line that
brings the count to the bad limit loses the scan: no request is sent, SCAN_LOST is submitted with the line and the
count, and measuring ends in FAULT with cause SCAN_LOST, every open hide handed on with CUT and FAULTED before the
MODE record. In CALIBRATE a calibration still WAITING is reported ABORTED before the hides are handed on; one that
the line itself made ENDING is ended before or after the fault request by a free value: after, as the fault entry,
and before, by its return to IDLE, in which the fault request is dropped (R12, R15, R55, R84, R176, R178; that the
line is handed on before its record is log entry 11, the two orders of a calibration's end log entry 6, the grid
within the strobe log entry 19). -/
def Obligations.UnansweredLineIsHeldOrLosesTheScan : Prop :=
  (∀ (a b : Bool) (s : State) (g : Grid), s.pins.resetAsserted = false →
    encoderPhase a b - encoderPhase s.pins.encoderA s.pins.encoderB = 1 →
    s.tcu.position = s.tcu.hwm → s.mdc.mode.scans = true → s.tcu.grid = some g → g.nextPos = s.tcu.hwm + 1 →
    s.noneDownstream (s.tcu.hwm + 1) →
    exec (.encoderStep a b) s = .next (lineAdvance { s with
      pins := { s.pins with encoderA := a, encoderB := b }
      tcu := { s.tcu with
        position := s.tcu.position + 1
        hwm := s.tcu.hwm + 1
        direction := .forward
        stallTimer := s.tcu.stallTimer.map (fun _ => s.settings.stallTime) } }))
  ∧ ∀ (s : State) (g : Grid) (m : Count), s.mdc.mode.scans = true → s.slr.scanning = true →
    s.slr.outstanding = some m → s.tcu.grid = some g →
    let bad := min (s.slr.badCount + 1) 15
    let number : Byte := g.nextLine.extractLsb' 0 8
    let taken := { s with
      tcu := { s.tcu with grid := some { g with
        nextLine := g.nextLine + 1, nextPos := g.nextPos + BitVec.ofNat 32 s.settings.lineInterval } }
      slr := { s.slr with outstanding := none } }.lineTaken m
        (g.origin + m * BitVec.ofNat 32 s.settings.lineInterval) (runList s.settings s.lcn s.slr.lastGood)
    let held := { taken with
      rpq := taken.rpq.offer taken.settings (.lineHeld m bad), slr := { taken.slr with badCount := bad } }
    (bad < s.settings.badLimit → lineAdvance s = { held with
        slr := { s.slr with
          outstanding := some g.nextLine
          badCount := bad
          sent := s.slr.sent ++ [[0x5A#8, number] ++ bytes16 (crc16 [number])] } })
    ∧ (s.settings.badLimit ≤ bad →
      let lost := { held with rpq := held.rpq.offer held.settings (.scanLost m bad) }
      let told := match lost.cal with
        | .waiting aRef =>
            lost.rpq.offer lost.settings (.calResult .aborted 0#16 aRef 0 0#16 lost.settings.gain 0)
        | .none | .ending => lost.rpq
      let aborted := { lost with cal := .none, rpq := told }
      let counted := { lost with openChoices := s.openChoices + 1 }
      (s.mdc.mode = .run →
        lineAdvance s = lost.measuringEnded 0x0030#16 .fault .scanLost .scanLost)
      ∧ (s.mdc.mode = .calibrate → lost.cal ≠ .ending →
        lineAdvance s = aborted.measuringEnded 0x0030#16 .fault .scanLost .scanLost)
      ∧ (s.mdc.mode = .calibrate → lost.cal = .ending → lineAdvance s =
          if Config.endBeforeFault s.openChoices then
            { counted.measuringEnded 0x0010#16 .idle .none .calEnd with cal := .none }
          else { counted with cal := .none }.measuringEnded 0x0030#16 .fault .scanLost .scanLost))
    ∧ taken.lcn = s.lcn ∧ taken.cml = s.cml ∧ taken.mdc = s.mdc ∧ taken.slr = { s.slr with outstanding := none }

/-- The belt-run input starts the stall timer in RUN, PAUSE and CALIBRATE, from zero and towards the stall time in
force, and its deassertion stops it (R10). That an assertion of an input already asserted is no event is the model's
reading (log entry 7). -/
def Obligations.BeltRunStartsAndStopsTheStallTimer : Prop :=
  ∀ (s : State), s.pins.resetAsserted = false →
    (s.pins.beltRun = false → exec .beltRunAssert s = .next
        { s with
          pins := { s.pins with beltRun := true }
          tcu := { s.tcu with
            stallTimer :=
              if s.mdc.mode = .run ∨ s.mdc.mode = .pause ∨ s.mdc.mode = .calibrate then some s.settings.stallTime
              else none } })
    ∧ (s.pins.beltRun = true → exec .beltRunAssert s = .next s)
    ∧ exec .beltRunDeassert s = .next
        { s with pins := { s.pins with beltRun := false }, tcu := { s.tcu with stallTimer := none } }

/-- On expiry of the stall timer the STALL record is submitted and the timer stops; a calibration still WAITING is
reported ABORTED; and measuring ends in FAULT with cause STALL: scanning ends when it was under way, every open hide
is handed on with CUT and FAULTED in ascending tag order, the table and the shadow list are empty, tracking is off,
and the MODE record is submitted last. Nothing but the output chain and the queue follows from the hides. A stopped
timer does not expire (R11, R12, R55, R82, R84, R176, R178; that a stopped timer's expiry does nothing is log entry
10, the stall time in the record log entry 8). -/
def Obligations.StallTimerExpiryEntersFault : Prop :=
  ∀ (s : State), s.pins.resetAsserted = false → s.marksAgree →
    (s.tcu.stallTimer = none → exec .stallTimerExpiry s = .next s)
    ∧ ∀ time, s.tcu.stallTimer = some time →
      let stalled := s.rpq.offer s.settings (.stall s.mdc.mode s.tcu.position s.tcu.hwm time)
      let told := match s.cal with
        | .waiting aRef =>
            stalled.offer s.settings (.calResult .aborted 0#16 aRef 0 0#16 s.settings.gain 0)
        | .none | .ending => stalled
      let stopped := { s with tcu := { s.tcu with stallTimer := none }, cal := .none, rpq := told }
      let t := stopped.measuringEnded 0x0030#16 .fault .stall .stall
      exec .stallTimerExpiry s = .next t
        ∧ t.mdc = ⟨.fault, .stall⟩
        ∧ t.tcu = { s.tcu with stallTimer := none }
        ∧ t.slr = (if s.mdc.mode = .pause then s.slr
            else { s.slr with scanning := false, outstanding := none, gathered := [] })
        ∧ t.htk = { s.htk with table := [], shadow := [], tracking := false }
        ∧ t.cal = .none ∧ t.settings = s.settings ∧ t.lcn = s.lcn ∧ t.cml = s.cml ∧ t.pins = s.pins
        ∧ (s.htk.table = [] → s.cal = .none →
            t.stc = s.stc ∧ t.tru = s.tru ∧ t.tlu = s.tlu
            ∧ t.rpq = stalled.offer s.settings
                (.mode s.mdc.mode .fault .stall s.tcu.hwm (nextLineNumber s) 0))

/-- The line frame that answers the outstanding line is accepted: its readings become the last good line, the
bad-line count becomes 0 and no line is outstanding; the line is taken by the tracker at its position, with the hides
it closes handed on, before the stuck monitor sees it (R13, R17, R21, R38, R54, R209). After it every cell's stuck
counter has risen by 1, to at most 65535, where the raw reading is covered and is 0 where it is not, and the marked
cells are those marked before and those at or above the stuck limit (R30, R31). Each cell that becomes stuck, in
ascending order, is inserted in the mask list when auto-mask is on, it is not on the list and the list holds fewer
than 32, and CELL_STUCK is submitted with its counter, the outcome MASKED exactly when the cell is then on the list,
and the size of the list; nothing else changes the list (R31). -/
def Obligations.LineFrameIsAccepted : Prop :=
  ∀ (cells : Readings) (n : Count) (g : Grid) (s : State), s.pins.resetAsserted = false →
    s.slr.outstanding = some n → s.tcu.grid = some g → s.lcn.counters.length = 1024 →
    s.lcn.mask.Pairwise (· < ·) →
    let u := { s with
      slr := { s.slr with outstanding := none, lastGood := cells, badCount := 0 } }.lineTaken n
        (g.origin + n * BitVec.ofNat 32 s.settings.lineInterval) (runList s.settings s.lcn cells)
    let counter (i : Nat) : Nat := if cells.getLsbD i then min (s.lcn.counters.getD i 0 + 1) 65535 else 0
    let stuck := (List.range 1024).filter (fun i =>
      decide (s.settings.stuckLimit ≤ counter i) && !decide (i ∈ s.lcn.marked))
    let report (a : List Nat × Rpq) (i : Nat) : List Nat × Rpq :=
      let mask :=
        if s.settings.autoMask = true ∧ i ∉ a.1 ∧ a.1.length < 32 then
          a.1.filter (fun j => decide (j < i)) ++ i :: a.1.filter (fun j => decide (i < j))
        else a.1
      (mask, a.2.offer u.settings (.cellStuck i n (counter i) (decide (i ∈ mask)) mask.length))
    let after := stuck.foldl report (s.lcn.mask, u.rpq)
    ∃ lcn, exec (.lineFrame (lineFrameOf (n.extractLsb' 0 8) cells)) s = .next { u with lcn := lcn, rpq := after.2 }
      ∧ lcn.mask = after.1 ∧ lcn.widths = s.lcn.widths
      ∧ lcn.counters = (List.range 1024).map counter
      ∧ (∀ i < 1024, i ∈ lcn.marked ↔ i ∈ s.lcn.marked ∨ s.settings.stuckLimit ≤ counter i)
      ∧ (s.settings.autoMask = false → lcn.mask = s.lcn.mask)
      ∧ (∀ i ∈ s.lcn.mask, i ∈ lcn.mask) ∧ (∀ i ∈ lcn.mask, i ∈ s.lcn.mask ∨ i ∈ lcn.marked)
      ∧ u.slr = { s.slr with outstanding := none, lastGood := cells, badCount := 0 } ∧ u.lcn = s.lcn
      ∧ u.tcu = s.tcu ∧ u.mdc = s.mdc ∧ u.cml = s.cml ∧ u.pins = s.pins

/-- On the scan head link bytes before a start byte are skipped, the bytes of a frame are gathered, and the 132nd
makes the line frame arrive; the byte-gap timer discards a frame under way. A frame that is not the outstanding
line's is discarded and changes nothing (R13, R203, R209). -/
def Obligations.ScanLinkGathersLineFrames : Prop :=
  (∀ (b : Byte) (s : State), s.pins.resetAsserted = false →
    (s.slr.gathered = [] → exec (.scanLinkByte b) s =
        .next { s with slr := { s.slr with gathered := if b = 0x5A#8 then [b] else [] } })
    ∧ (s.slr.gathered ≠ [] → s.slr.gathered.length < 131 → exec (.scanLinkByte b) s =
        .next { s with slr := { s.slr with gathered := s.slr.gathered ++ [b] } })
    ∧ exec .scanLinkGapTimeout s = .next { s with slr := { s.slr with gathered := [] } })
  ∧ (∀ (frame : List Byte) (s : State), s.slr.gathered = [] → frame.length = 132 → frame.head? = some 0x5A#8 →
      execAll (frame.map Instr.scanLinkByte) s = exec (.lineFrame frame) s)
  ∧ ∀ (frame : List Byte) (s : State),
      (∀ n cells, s.slr.outstanding = some n → frame ≠ lineFrameOf (n.extractLsb' 0 8) cells) →
      exec (.lineFrame frame) s = .next s

/-! ### Cell conditioning (chapter 2) -/

/-- Run extraction gives, in ascending order, the maximal stretches of covered cells: every run lies on the line and
is not empty, at least one uncovered cell lies between two runs, a cell is covered exactly when a run holds it, and
1024 cells give at most 512 runs (R25). -/
def Obligations.RunExtractionCoversTheCoveredCells : Prop :=
  ∀ (cells : List Bool),
    let runs := extractRuns cells 0 none
    (∀ r ∈ runs, r.first ≤ r.last ∧ r.last < cells.length)
    ∧ runs.Pairwise (fun a b => a.last + 1 < b.first)
    ∧ (∀ i, cells.getD i false = true ↔ ∃ r ∈ runs, r.first ≤ i ∧ i ≤ r.last)
    ∧ (cells.length = 1024 → runs.length ≤ 512)

/-- An unmasked cell reads as it was read. A masked cell between two unmasked neighbours reads covered when both
do; one with no unmasked cell below it reads as its neighbour above, and one with none above as its neighbour
below; the neighbours are judged on their raw readings (R22). A cell is covered after bridging exactly when it lies
between two effectively covered cells, itself included, with at most bridge cells from one to the other, and more
than bridge uncovered cells lie between two bridged runs (R25, R26). The run list is the bridged runs of at least
min run cells, in order, each with the width P(end + 1) − P(start); of more than 64, the first 63 stand and the
others are joined into the 64th, from its start to the end of the last, with the sum of their widths (R18, R27 to
R29). -/
def Obligations.MaskingAndTheRunList : Prop :=
  (∀ (mask : List Nat) (raw : Readings) (i : Nat), i < 1024 →
      (i ∉ mask → effective mask raw i = raw.getLsbD i)
      ∧ (i ∈ mask → ∀ l r, l < i → l ∉ mask → (∀ j, l < j → j < i → j ∈ mask) →
          i < r → r < 1024 → r ∉ mask → (∀ j, i < j → j < r → j ∈ mask) →
          effective mask raw i = (raw.getLsbD l && raw.getLsbD r))
      ∧ (i ∈ mask → (∀ j, j < i → j ∈ mask) →
          ∀ r, i < r → r < 1024 → r ∉ mask → (∀ j, i < j → j < r → j ∈ mask) →
          effective mask raw i = raw.getLsbD r)
      ∧ (i ∈ mask → (∀ j, i < j → j < 1024 → j ∈ mask) →
          ∀ l, l < i → l ∉ mask → (∀ j, l < j → j < i → j ∈ mask) →
          effective mask raw i = raw.getLsbD l))
  ∧ (∀ (c : Settings) (l : Lcn) (raw : Readings),
      let covered (i : Nat) := i < 1024 ∧ effective l.mask raw i = true
      let bridged := bridgeRuns c.bridge (extractRuns (effectiveList l.mask raw) 0 none)
      let kept := bridged.filter (fun t => decide (c.minRun ≤ t.last - t.first + 1))
      let measured (t : Span) : Run :=
        ⟨t.first, t.last, (l.widths.take (t.last + 1)).sum - (l.widths.take t.first).sum⟩
      let runs := runList c l raw
      (∀ k, (∃ t ∈ bridged, t.first ≤ k ∧ k ≤ t.last) ↔
          ∃ i j, covered i ∧ covered j ∧ i ≤ k ∧ k ≤ j ∧ j ≤ i + c.bridge + 1)
      ∧ bridged.Pairwise (fun a b => a.last + 1 + c.bridge < b.first)
      ∧ (∀ t ∈ bridged, t.first ≤ t.last ∧ t.last < 1024)
      ∧ (kept.length ≤ 64 → runs = kept.map measured)
      ∧ (64 < kept.length → runs = (kept.take 63).map measured ++
          [⟨(kept.getD 63 ⟨0, 0⟩).first, (kept.getLastD ⟨0, 0⟩).last,
            ((kept.drop 63).map (fun t => (measured t).width)).sum⟩])
      ∧ runs.length ≤ 64
      ∧ (∀ r ∈ runs, r.first ≤ r.last ∧ r.last < 1024 ∧ c.minRun ≤ r.last - r.first + 1)
      ∧ runs.Pairwise (fun a b => a.last + 1 + c.bridge < b.first))

/-- WIDTHS LOAD writes its widths to the cells from its start index on and changes nothing else; outside IDLE or with
a hide open it is BUSY, and a list that leaves the line or a width outside 1000 to 8000 µm is RANGE. WIDTHS READ
gives the widths asked for, or RANGE, and changes nothing (R18, R19, R20). -/
def Obligations.WidthsLoadAndRead : Prop :=
  ∀ (tag : Byte) (start : BitVec 16) (widths : List (BitVec 16)) (count : Byte) (s : State), s.listening →
    (1 ≤ widths.length → widths.length ≤ 60 →
      let fits := start.toNat + widths.length ≤ 1024 ∧ ∀ w ∈ widths, 1000 ≤ w.toNat ∧ w.toNat ≤ 8000
      (s.mdc.mode = .idle → s.htk.table = [] → fits → s.lcn.widths.length = 1024 →
        ∃ ws, exec (.widthsLoad tag start widths) s =
            .next ({ s with lcn := { s.lcn with widths := ws } }.answers tag (.widthsLoad start widths) (.ok []))
          ∧ ws.length = 1024
          ∧ ∀ i < 1024, ws.getD i 0 =
              if start.toNat ≤ i ∧ i < start.toNat + widths.length then (widths.getD (i - start.toNat) 0).toNat
              else s.lcn.widths.getD i 0)
      ∧ (¬(s.mdc.mode = .idle ∧ s.htk.table = []) → exec (.widthsLoad tag start widths) s =
          .next (s.answers tag (.widthsLoad start widths) (.refuse .busy)))
      ∧ (s.mdc.mode = .idle → s.htk.table = [] → ¬fits → exec (.widthsLoad tag start widths) s =
          .next (s.answers tag (.widthsLoad start widths) (.refuse .range))))
    ∧ (let fits := 1 ≤ count.toNat ∧ count.toNat ≤ 60 ∧ start.toNat + count.toNat ≤ 1024
      (fits → s.lcn.widths.length = 1024 → exec (.widthsRead tag start count) s =
          .next (s.answers tag (.widthsRead start count)
            (.ok ((List.range count.toNat).flatMap (fun k => field 2 (s.lcn.widths.getD (start.toNat + k) 0))))))
      ∧ (¬fits → exec (.widthsRead tag start count) s =
          .next (s.answers tag (.widthsRead start count) (.refuse .range))))

/-- MASK ADD and MASK DROP in the order of their tables: BUSY outside IDLE, RANGE above cell 1023, then OK without
effect or FULL, NOT_FOUND, or the change: ADD inserts the cell in its ascending place; DROP removes it, sets its
stuck counter to 0 and clears its mark. MASK LIST gives the number of indices and the indices (R23, R24, R33). -/
def Obligations.MaskRequests : Prop :=
  ∀ (tag : Byte) (cell : BitVec 16) (s : State), s.listening →
    (s.mdc.mode ≠ .idle →
      exec (.maskAdd tag cell) s = .next (s.answers tag (.maskAdd cell) (.refuse .busy))
      ∧ exec (.maskDrop tag cell) s = .next (s.answers tag (.maskDrop cell) (.refuse .busy)))
    ∧ (s.mdc.mode = .idle → 1023 < cell.toNat →
      exec (.maskAdd tag cell) s = .next (s.answers tag (.maskAdd cell) (.refuse .range))
      ∧ exec (.maskDrop tag cell) s = .next (s.answers tag (.maskDrop cell) (.refuse .range)))
    ∧ (s.mdc.mode = .idle → cell.toNat ≤ 1023 → cell.toNat ∈ s.lcn.mask →
      exec (.maskAdd tag cell) s = .next (s.answers tag (.maskAdd cell) (.ok []))
      ∧ exec (.maskDrop tag cell) s = .next ({ s with
          lcn := { s.lcn with
            mask := s.lcn.mask.filter (fun j => j ≠ cell.toNat)
            counters := s.lcn.counters.set cell.toNat 0
            marked := s.lcn.marked.filter (fun j => j ≠ cell.toNat) } }.answers tag (.maskDrop cell) (.ok [])))
    ∧ (s.mdc.mode = .idle → cell.toNat ≤ 1023 → cell.toNat ∉ s.lcn.mask →
      exec (.maskDrop tag cell) s = .next (s.answers tag (.maskDrop cell) (.refuse .notFound))
      ∧ (32 ≤ s.lcn.mask.length →
          exec (.maskAdd tag cell) s = .next (s.answers tag (.maskAdd cell) (.refuse .full)))
      ∧ (s.lcn.mask.length < 32 → s.lcn.mask.Pairwise (· < ·) →
          ∃ mask, exec (.maskAdd tag cell) s =
              .next ({ s with lcn := { s.lcn with mask := mask } }.answers tag (.maskAdd cell) (.ok []))
            ∧ mask.Pairwise (· < ·) ∧ ∀ j, j ∈ mask ↔ j = cell.toNat ∨ j ∈ s.lcn.mask))
    ∧ exec (.maskList tag) s = .next (s.answers tag .maskList
        (.ok (field 1 s.lcn.mask.length ++ s.lcn.mask.flatMap (field 2))))

/-! ### Hide tracking and spots (chapters 3 and 6) -/

/-- An unmatched run opens a hide while the table holds fewer than 16: the hide takes the first tag from the next-tag
counter on, 65535 followed by 1, that neither the table nor the transit list holds, and the counter stands one step
beyond it; its lane by the run's midpoint, PARTIAL where it meets the shadow list, REF_CANDIDATE in
CALIBRATE, and a spot part that searches when its lane stamps; with 16 held the run is not opened, and a run that
touches a hide opens none (R36, R42 to R46, R92). The new shadow run list holds at most 16 runs, in ascending order,
no two of which share a cell; each is a chain of offered runs that share cells, joined, which no other offered run
meets; and an offered run that is not within one of them lies above all of them, when they are 16 (R37, R46, R53). -/
def Obligations.UnmatchedRunOpensAHide : Prop :=
  (∀ (x : LineInput) (shadow : List Span) (o : Openings) (r : Run),
    let after (t : Tag) : Tag := if t = 0xFFFF#16 then 1#16 else t + 1
    let holds (t : Tag) : Prop := t ∈ x.held ∨ ∃ b ∈ o.table, b.tag = t
    (∀ t, placeRun x shadow o (r, some t) = { o with assigned := o.assigned ++ [(r, t)] })
    ∧ (16 ≤ o.table.length → placeRun x shadow o (r, none) = { o with notOpened := o.notOpened ++ [r] })
    ∧ (o.table.length < 16 → o.nextTag ≠ 0#16 → x.held.length ≤ 24 →
      ∃ h : Hide, placeRun x shadow o (r, none) =
          { o with
            table := o.table ++ [h]
            nextTag := after h.tag
            assigned := o.assigned ++ [(r, h.tag)] }
        ∧ (∃ k, h.tag = after^[k] o.nextTag ∧ ∀ j < k, holds (after^[j] o.nextTag))
        ∧ ¬holds h.tag ∧ h.tag ≠ 0#16
        ∧ h.firstLine = x.line ∧ h.lastLine = x.line ∧ h.firstPos = x.pos ∧ h.covered = 0 ∧ h.gap = 0
        ∧ h.widthSum = 0 ∧ h.fillSum = 0 ∧ h.left = r.first ∧ h.right = r.last ∧ h.pieces = 1
        ∧ (∀ l, h.lane = some l → (x.settings.window.get l).enabled = true
            ∧ (x.settings.window.get l).first ≤ (r.first + r.last) / 2
            ∧ (r.first + r.last) / 2 ≤ (x.settings.window.get l).last)
        ∧ (h.lane = none → ∀ l, (x.settings.window.get l).enabled = true →
            (r.first + r.last) / 2 < (x.settings.window.get l).first
            ∨ (x.settings.window.get l).last < (r.first + r.last) / 2)
        ∧ (h.flags = (if ∃ t ∈ shadow, r.first ≤ t.last ∧ t.first ≤ r.last then 0x0004#16 else 0#16)
            ||| (if x.mode = .calibrate then 0x0040#16 else 0#16))
        ∧ h.spot = ⟨if ∃ l, h.lane = some l ∧ (x.settings.laneHead.get l).isSome = true
            ∧ x.settings.stamping.get l = true then .lead else .none, x.line, 0⟩))
  ∧ (∀ offered : List Span, (∀ u ∈ offered, u.first ≤ u.last) →
    let shadow := shadowList offered
    shadow.length ≤ 16
    ∧ shadow.Pairwise (fun a b => a.last < b.first)
    ∧ (∀ t ∈ shadow, t.first ≤ t.last
      ∧ (∃ u ∈ offered, u.first = t.first) ∧ (∃ u ∈ offered, u.last = t.last)
      ∧ (∀ k, t.first ≤ k → k < t.last → ∃ u ∈ offered, u.first ≤ k ∧ k + 1 ≤ u.last)
      ∧ ∀ u ∈ offered, u.first ≤ t.last → t.first ≤ u.last → t.first ≤ u.first ∧ u.last ≤ t.last)
    ∧ ∀ u ∈ offered, (∃ t ∈ shadow, t.first ≤ u.first ∧ u.last ≤ t.last)
        ∨ (shadow.length = 16 ∧ ∀ t ∈ shadow, t.last < u.first))

/-- A hide with no run on the line counts its gap down and keeps everything else, and is marked for close at 0; a
hide with runs gains their widths and the holes filled, its covered lines rise by 1, its gap countdown is set
afresh, and at max lines it is marked for close with LONG. A hole between two consecutive runs of the hide is
filled when it is at most fill cells wide and no run of the line lies in it, by the widths of its cells. The last
runs become the runs of the line; of more than 8, the first 7 stand and the 8th reaches to the end of the last (R47
to R52). A line makes of the table, after its merges and openings, the hides that are not marked, each with its
spot part updated; those marked, with NOSPOT added to one whose spot is not FOUND, in ascending tag order; and the
shadow run list from the runs that could not open and the last runs of the LONG hides (R38, R42, R53, R54, R93,
R100; that the table keeps its order is log entry 26). -/
def Obligations.LineStepsAHide : Prop :=
  (∀ (x : LineInput) (h : Hide) (r : Run) (rest : List Run),
    (stepHide x [] h).1 = { h with gap := h.gap - 1 }
    ∧ (stepHide x [] h).2 = (if h.gap ≤ 1 then .gap else .stays)
    ∧ (let mine := r :: rest
      let filled := ((mine.zip rest).map (fun p =>
        if p.2.first - p.1.last - 1 ≤ x.settings.fill ∧ ∀ q ∈ x.runs, ¬(p.1.last < q.first ∧ q.last < p.2.first) then
          (x.widths.take p.2.first).sum - (x.widths.take (p.1.last + 1)).sum
        else 0)).sum
      let t := (stepHide x mine h).1
      t.widthSum = h.widthSum + (mine.map (fun a => a.width)).sum + filled
      ∧ t.fillSum = h.fillSum + filled
      ∧ t.covered = h.covered + 1 ∧ t.lastLine = x.line ∧ t.gap = x.settings.closeGap
      ∧ (t.left ≤ h.left ∧ ∀ a ∈ mine, t.left ≤ a.first) ∧ (t.left = h.left ∨ ∃ a ∈ mine, t.left = a.first)
      ∧ (h.right ≤ t.right ∧ ∀ a ∈ mine, a.last ≤ t.right) ∧ (t.right = h.right ∨ ∃ a ∈ mine, t.right = a.last)
      ∧ (mine.length ≤ 8 → t.lastRuns = mine.map (fun a => ⟨a.first, a.last⟩))
      ∧ (8 < mine.length → t.lastRuns = (mine.take 7).map (fun a => ⟨a.first, a.last⟩)
          ++ [⟨(mine.getD 7 r).first, (mine.getLastD r).last⟩])
      ∧ (stepHide x mine h).2 = (if h.covered + 1 = x.settings.maxLines then .long else .stays)
      ∧ (hasFlag t.flags .long = true ↔ hasFlag h.flags .long = true ∨ h.covered + 1 = x.settings.maxLines)
      ∧ (hasFlag t.flags .edge = true ↔
          hasFlag h.flags .edge = true ∨ ∃ a ∈ mine, a.first = 0 ∨ (a.first ≤ 1023 ∧ 1023 ≤ a.last))
      ∧ t.flags = h.flags ||| (t.flags &&& 0x000A#16)
      ∧ t.tag = h.tag ∧ t.lane = h.lane ∧ t.firstLine = h.firstLine ∧ t.firstPos = h.firstPos
      ∧ t.pieces = h.pieces ∧ t.spot = h.spot))
  ∧ (∀ (x : LineInput) (t : Htk),
    let groups := resolvedGroups x.line t.table x.runs
    let opened := (x.runs.map (fun r => (r, assignedTag groups t.table r))).foldl (placeRun x t.shadow)
      ⟨mergedTable groups t.table, t.nextTag, [], []⟩
    let mine (h : Hide) := (opened.assigned.filter (fun a => decide (a.2 = h.tag))).map (fun a => a.1)
    let mark (h : Hide) := (stepHide x (mine h) h).2
    let stepped (h : Hide) := spotUpdate x (mine h) (stepHide x (mine h) h).1
    let closed (h : Hide) := { stepped h with
      flags := (stepped h).flags ||| if (stepped h).spot.state = .found then 0#16 else 0x0200#16 }
    let o := lineOutcome x t
    o.staying = (opened.table.filter (fun h => decide (mark h = .stays))).map stepped
    ∧ o.closing.Perm ((opened.table.filter (fun h => decide (mark h ≠ .stays))).map closed)
    ∧ o.closing.Pairwise (fun a b => a.tag.toNat ≤ b.tag.toNat)
    ∧ o.nextTag = opened.nextTag ∧ o.notOpened = opened.notOpened
    ∧ o.shadow = shadowList (o.notOpened.map (fun r => ⟨r.first, r.last⟩)
        ++ (opened.table.filter (fun h => decide (mark h = .long))).flatMap (fun h => (stepped h).lastRuns)))

/-- Two hides of the table are linked when one run of the line shares a cell with a last run of each. While no tag
is held twice, the merges of a line leave one hide for each group of hides linked directly or through others, and
no hide else. It is the oldest hide of its group, and among the oldest the one of the lowest tag; it keeps its own
tag, lane, first line, first position, last covered line, gap countdown, last runs and spot part, gains the width
sums, fill sums, pieces (to at most 16), extents, covered lines and flags of the others, and carries JOINED; a hide
linked to no other is unchanged. So the width sums and the fill sums of the table add up as before. A run that
meets a hide goes to the hide left of its group, and a run that meets none to none (R39 to R42, R99). -/
def Obligations.MergesKeepTheLeatherAndTheOldest : Prop :=
  (∀ (line : Count) (table : List Hide) (runs : List Run), (table.map (fun h => h.tag)).Nodup →
      let groups := resolvedGroups line table runs
      let merged := mergedTable groups table
      let meets (r : Run) (h : Hide) := h ∈ table ∧ ∃ u ∈ h.lastRuns, r.first ≤ u.last ∧ u.first ≤ r.last
      let joined := Relation.ReflTransGen (fun a b => ∃ r ∈ runs, meets r a ∧ meets r b)
      (∀ h ∈ merged, ∃ a ∈ table, ∃ others : List Hide, others.Nodup
        ∧ (∀ b, b ∈ others ↔ b ≠ a ∧ b ∈ table ∧ joined a b)
        ∧ (∀ b ∈ others, (line - b.firstLine).toNat < (line - a.firstLine).toNat
          ∨ ((line - b.firstLine).toNat = (line - a.firstLine).toNat ∧ a.tag.toNat < b.tag.toNat))
        ∧ (others = [] → h = a)
        ∧ (others ≠ [] →
          h.tag = a.tag ∧ h.lane = a.lane ∧ h.firstLine = a.firstLine ∧ h.firstPos = a.firstPos
          ∧ h.lastLine = a.lastLine ∧ h.gap = a.gap ∧ h.lastRuns = a.lastRuns ∧ h.spot = a.spot
          ∧ h.widthSum = a.widthSum + (others.map (fun b => b.widthSum)).sum
          ∧ h.fillSum = a.fillSum + (others.map (fun b => b.fillSum)).sum
          ∧ h.pieces = min (a.pieces + (others.map (fun b => b.pieces)).sum) 16
          ∧ (∀ b ∈ a :: others, h.left ≤ b.left ∧ b.right ≤ h.right ∧ b.covered ≤ h.covered)
          ∧ (∃ b ∈ a :: others, h.left = b.left) ∧ (∃ b ∈ a :: others, h.right = b.right)
          ∧ (∃ b ∈ a :: others, h.covered = b.covered)
          ∧ h.flags = others.foldl (fun f b => f ||| b.flags) (a.flags ||| 0x0001#16)))
      ∧ (∀ a ∈ table, ∃! h, h ∈ merged ∧ ∃ b ∈ table, b.tag = h.tag ∧ joined a b)
      ∧ (∀ r ∈ runs, (∀ a, ¬meets r a) → assignedTag groups table r = none)
      ∧ (∀ r ∈ runs, ∀ a, meets r a →
        ∃ h ∈ merged, assignedTag groups table r = some h.tag ∧ ∃ b ∈ table, b.tag = h.tag ∧ joined a b)
      ∧ (merged.map (fun h => h.widthSum)).sum = (table.map (fun h => h.widthSum)).sum
      ∧ (merged.map (fun h => h.fillSum)).sum = (table.map (fun h => h.fillSum)).sum
      ∧ (merged.map (fun h => h.tag)).Nodup)
  ∧ (∀ (line : Count) (hides : List Hide), hides ≠ [] →
      ∃ h ∈ hides, survivorOf line hides = some h
        ∧ ∀ b ∈ hides, (line - b.firstLine).toNat < (line - h.firstLine).toNat
          ∨ ((line - b.firstLine).toNat = (line - h.firstLine).toNat ∧ h.tag.toNat ≤ b.tag.toNat))

/-- A hide in LEAD stays there until its line number is lead-in lines past its first. From then on, as in SEEK, it
is FOUND by the first needed number of consecutive lines whose footprint is covered, with the first of them as its
spot line, and stays FOUND; a line that is not covered sends a hide that is not FOUND to SEEK, but for one in NONE,
which stays there (R94 to R98). The update of a hide takes the lead-in and needed counts as the lengths lead-in and
face + slip in line pitches, rounded up, counts the lines from its first line modulo 2³², and takes the footprint
as covered when one of the hide's runs of the line contains all cells of the footprint of the head its lane names
and has the full width of its cells (R90, R93). -/
def Obligations.SpotIsTheFirstFullStreak : Prop :=
  (∀ (leadIn need k : Nat) (first : Count) (p : Spot), 1 ≤ need →
    (p.state = .lead → k < leadIn → ∀ line covered, spotLine leadIn need k line first covered p = p)
    ∧ (p.state = .seek ∨ (p.state = .lead ∧ leadIn ≤ k) →
      (∀ line, spotLine leadIn need k line first false p = ⟨.seek, first, 0⟩)
      ∧ ∀ (line : Count) (n : Nat), 1 ≤ n →
        let after := (List.range n).foldl
          (fun q i => spotLine leadIn need (k + i) (line + BitVec.ofNat 32 i) first true q) p
        after = ⟨if need ≤ n then .found else .streak, line, min n need⟩
        ∧ spotLine leadIn need (k + n) (line + BitVec.ofNat 32 n) first false after =
            if need ≤ n then after else ⟨.seek, first, 0⟩)
    ∧ (p.state = .none ∨ p.state = .found → ∀ line covered, spotLine leadIn need k line first covered p = p))
  ∧ (∀ (x : LineInput) (mine : List Run) (h : Hide), 1 ≤ x.settings.encoderStep * x.settings.lineInterval →
    ∃ (leadIn need : Nat) (covered : Bool),
      spotUpdate x mine h =
        { h with spot := spotLine leadIn need (x.line - h.firstLine).toNat x.line h.firstLine covered h.spot }
      ∧ (∀ n, x.settings.leadIn * 1000 ≤ n * (x.settings.encoderStep * x.settings.lineInterval) ↔ leadIn ≤ n)
      ∧ (∀ n, (x.settings.face + x.settings.slip) * 1000 ≤ n * (x.settings.encoderStep * x.settings.lineInterval)
          ↔ need ≤ n)
      ∧ (covered = true ↔ ∃ lane head, h.lane = some lane ∧ x.settings.laneHead.get lane = some head
        ∧ ∃ r ∈ mine, r.first ≤ x.settings.footFirst.get head
          ∧ x.settings.footFirst.get head + x.settings.footWidth.get head ≤ r.last + 1
          ∧ (x.widths.take (r.last + 1)).sum - (x.widths.take r.first).sum ≤ r.width))

/-! ### Area and calibration (chapters 4 and 5) -/

/-- The raw area, and the length, width and fill figures of a closed hide, by the formulas of R62, R71, R72 and R73.
With them its tag, lane, pieces and spot state are handed on as they stand, and two line positions, first position +
(line − first line) × D modulo 2³²: that of its last line and that of its spot line (R54, R74, R102, R106). -/
def Obligations.AreaAndDimensionFigures : Prop :=
  ∀ (c : Settings) (widths : List Nat) (h : Hide) (raw : Nat) (flags : FlagSet),
    let p := c.encoderStep * c.lineInterval
    let m := measureHide c widths h raw flags
    rawArea h.widthSum p = (h.widthSum * p + 500000) / 1000000
    ∧ m.length = (((h.lastLine - h.firstLine).toNat + 1) * p + 500) / 1000
    ∧ m.width = ((widths.take (h.right + 1)).sum - (widths.take h.left).sum + 500) / 1000
    ∧ m.fill = (h.fillSum * p + 500000) / 1000000
    ∧ m.tag = h.tag ∧ m.lane = h.lane ∧ m.pieces = h.pieces ∧ m.spot = h.spot.state
    ∧ m.lastPos = h.firstPos + (h.lastLine - h.firstLine) * BitVec.ofNat 32 c.lineInterval
    ∧ m.spotPos = h.firstPos + (h.spot.start - h.firstLine) * BitVec.ofNat 32 c.lineInterval

/-- The corrected area is the raw area times the gain in parts per 100,000, rounded half up. A hide below the minimum
area that is not the reference is SMALL with figure 0. Any other is not made SMALL; its figure is the rounded or
truncated quotient of the sale unit, and a quotient above the unit's limit is clamped to it with OVER (R64, R66 to
R69, R85). -/
def Obligations.SaleFigure : Prop :=
  ∀ (c : Settings) (widths : List Nat) (h : Hide) (raw : Nat) (flags : FlagSet),
    let m := measureHide c widths h raw flags
    let small := hasFlag flags .ref = false ∧ m.area < c.minArea
    let numerator := match c.saleUnit with
      | .quarterFoot => m.area * 400
      | .tenthFoot => m.area * 1000
      | .decimetre => m.area
    let divisor := match c.saleUnit with
      | .quarterFoot => 9290304
      | .tenthFoot => 9290304
      | .decimetre => 10000
    let limit := match c.saleUnit with
      | .quarterFoot => 39999
      | .tenthFoot => 9999
      | .decimetre => 9999
    let quotient := match c.rounding with
      | .nearest => (2 * numerator + divisor) / (2 * divisor)
      | .down => numerator / divisor
    m.area = (2 * raw * c.gain + 100000) / 200000 ∧ m.unit = c.saleUnit
    ∧ (small → m.figure = 0 ∧ m.flags = flags ||| 0x0080#16)
    ∧ (¬small → m.figure = min quotient limit
        ∧ m.flags = if limit < quotient then flags ||| 0x0100#16 else flags)

/-- While a calibration is WAITING, a hide that reaches the minimum area, measures at least 1 mm² and opened in
CALIBRATE is its reference: it gains REF; with a flag of R80 it is FLAGGED; else the gain becomes the quotient when
that lies from 95,000 to 105,000 (OK), and stays when it does not (RANGE); one CAL_RESULT record is submitted and the
calibration is ENDING. Any other hide changes nothing, nor does any hide while nothing is WAITING (R65, R79 to R82).
-/
def Obligations.ReferenceSetsTheGain : Prop :=
  ∀ (tag : Tag) (raw aRef : Nat) (flags : FlagSet) (s : State),
    let chosen := s.settings.minArea ≤ raw ∧ 1 ≤ raw ∧ hasFlag flags .refCandidate = true
    let marked := flags ||| 0x4000#16
    let unfit := marked &&& 0x003F#16 ≠ 0#16
    let g := (aRef * 100000 + raw / 2) / raw
    let told (cause : CalCause) (new : Nat) : Rpq :=
      s.rpq.offer s.settings (.calResult cause tag aRef raw marked s.settings.gain new)
    ((∀ a, s.cal ≠ .waiting a) → offerHide tag raw flags s = (flags, s))
    ∧ (s.cal = .waiting aRef → ¬chosen → offerHide tag raw flags s = (flags, s))
    ∧ (s.cal = .waiting aRef → chosen → unfit →
        offerHide tag raw flags s = (marked, { s with cal := .ending, rpq := told .flagged 0 }))
    ∧ (s.cal = .waiting aRef → chosen → ¬unfit → 95000 ≤ g → g ≤ 105000 →
        offerHide tag raw flags s =
          (marked, { s with cal := .ending, rpq := told .ok g, settings := { s.settings with gain := g } }))
    ∧ (s.cal = .waiting aRef → chosen → ¬unfit → (g < 95000 ∨ 105000 < g) →
        offerHide tag raw flags s =
          (marked, { s with cal := .ending, rpq := told .range (min g 4294967295) }))

/-- The end of a calibration that is ENDING in CALIBRATE returns the part to IDLE: scanning ends, every open hide is
handed on with CUT in ascending tag order, the table and the shadow list are empty, tracking is off, and the MODE
record is submitted last; the calibration is then NONE. At any other moment the end is dropped (R55, R83, R84, R175,
R178; the end as a command of its own is log entry 13). -/
def Obligations.CalEndReturnsToIdle : Prop :=
  ∀ (s : State), s.pins.resetAsserted = false →
    (¬(s.mdc.mode = .calibrate ∧ s.cal = .ending) → exec .calEnd s = .next s)
    ∧ (s.mdc.mode = .calibrate → s.cal = .ending →
      let t := { s.measuringEnded 0x0010#16 .idle .none .calEnd with cal := .none }
      exec .calEnd s = .next t
        ∧ t.mdc = ⟨.idle, .none⟩ ∧ t.cal = .none
        ∧ t.slr = { s.slr with scanning := false, outstanding := none, gathered := [] }
        ∧ t.htk = { s.htk with table := [], shadow := [], tracking := false }
        ∧ t.tcu = { s.tcu with stallTimer := none }
        ∧ t.settings = s.settings ∧ t.lcn = s.lcn ∧ t.cml = s.cml ∧ t.pins = s.pins
        ∧ (s.htk.table = [] →
            t.stc = s.stc ∧ t.tru = s.tru ∧ t.tlu = s.tlu
            ∧ t.rpq = s.rpq.offer s.settings
                (.mode .calibrate .idle .calEnd s.tcu.hwm (nextLineNumber s) 0)))

/-! ### Stamp heads (chapter 7) -/

/-- READY for the order in hand of an ARMING channel: with its fire position reached the order is FIRING and FIRE
is sent with the print timer started; else the order is ARMED and the arming check is made, which displaces it when
an earlier order is WAITING (HeadClearAndArming says how); with no order WAITING for the head nothing is displaced.
READY is discarded with a wrong CRC, or on a channel that is not ARMING with that tag (R109, R111, R112, R209). -/
def Obligations.ReadyArmsOrFires : Prop :=
  (∀ (h : Fin 4) (e : Entry) (o : Order) (s : State), s.pins.resetAsserted = false →
    (s.stc.get h).state = .arming → (s.stc.get h).tag = some e.tag →
    e ∈ s.tru.transit → e.stamp = some o → o.head = h → (s.tru.transit.map (fun x => x.tag)).Nodup →
    let put (st : OrderState) := s.tru.transit.map
      (fun x => if x.tag = e.tag then { x with stamp := some { o with state := st } } else x)
    let frame := exec (.ready h e.tag (crc16 (0x81#8 :: bytes16 e.tag))) s
    let armed := { s with
      tru := { s.tru with transit := put .armed }
      stc := s.stc.set h { s.stc.get h with state := .armed, armTimer := false } }
    (reached s.tcu.hwm o.fire = true → frame = .next
        { s with
          tru := { s.tru with transit := put .firing }
          stc := s.stc.set h { s.stc.get h with
            state := .printing
            armTimer := false
            printTimer := true
            sent := (s.stc.get h).sent ++ [headFrame 0x02#8 e.tag []] } })
    ∧ (reached s.tcu.hwm o.fire = false → frame = .next (armingCheck h armed))
    ∧ (reached s.tcu.hwm o.fire = false →
        (∀ x ∈ s.tru.transit, ∀ w ∈ x.stamp.toList, w.head = h → w.state ≠ .waiting) → frame = .next armed))
  ∧ ∀ (h : Fin 4) (tag : Tag) (crc : BitVec 16) (s : State),
      crc ≠ crc16 (0x81#8 :: bytes16 tag) ∨ (s.stc.get h).state ≠ .arming ∨ (s.stc.get h).tag ≠ some tag →
      exec (.ready h tag crc) s = .next s

/-- DONE for the order in hand of a PRINTING channel frees the channel, the order is DONE unless it was detached,
and the arming check follows, which arms the earliest order WAITING for the head (HeadClearAndArming says how);
with none WAITING nothing is armed. DONE is discarded with a wrong CRC, or on a channel that is not PRINTING with
that tag (R109, R110, R113). -/
def Obligations.DoneEndsThePrint : Prop :=
  (∀ (h : Fin 4) (tag : Tag) (s : State), s.pins.resetAsserted = false →
    (s.stc.get h).state = .printing → (s.stc.get h).tag = some tag →
    let frame := exec (.done h tag (crc16 (0x82#8 :: bytes16 tag))) s
    let freed := { s with
      stc := s.stc.set h { s.stc.get h with
        state := .idle, tag := none, detached := false, armTimer := false, printTimer := false } }
    let printed := { freed with
      tru := { s.tru with
        transit := s.tru.transit.map (fun x =>
          if x.tag = tag then { x with stamp := x.stamp.map (fun o => { o with state := .done }) } else x) } }
    let ended := if (s.stc.get h).detached then freed else printed
    frame = .next (armingCheck h ended)
    ∧ ((∀ x ∈ s.tru.transit, ∀ w ∈ x.stamp.toList, w.head = h → w.state ≠ .waiting) → frame = .next ended))
  ∧ ∀ (h : Fin 4) (tag : Tag) (crc : BitVec 16) (s : State),
      crc ≠ crc16 (0x82#8 :: bytes16 tag) ∨ (s.stc.get h).state ≠ .printing ∨ (s.stc.get h).tag ≠ some tag →
      exec (.done h tag crc) s = .next s

/-- A fault of a head (a FAULT frame that names tag 0 or the tag in hand, or the expiry of a timer that runs) settles
the order in hand: back to WAITING when it was ARMING or ARMED, FAILED with MISSED on its hide when it was printing,
left alone when it was detached; the channel is FAULT and HEAD_FAULT is submitted (R114, R115, R116, R208). A FAULT
frame is discarded with a wrong CRC, on a channel in FAULT, or when its tag is neither 0 nor the tag in hand; and a
timer of a head that does not run does not expire (R109, R114, R115; log entry 10). -/
def Obligations.HeadFaults : Prop :=
  (∀ (c : Instr) (h : Fin 4) (cause : HeadCause) (s : State), s.pins.resetAsserted = false →
      ((∃ tag code, c = .faultFrame h tag code (crc16 (0x83#8 :: (bytes16 tag ++ [code]))) ∧ cause = .code code
          ∧ (tag = 0#16 ∨ (s.stc.get h).tag = some tag))
        ∨ (c = .armTimerExpiry h ∧ cause = .timeoutArm ∧ (s.stc.get h).armTimer = true)
        ∨ (c = .printTimerExpiry h ∧ cause = .timeoutPrint ∧ (s.stc.get h).printTimer = true)) →
      let hand := (s.stc.get h).tag.getD 0#16
      let stc := s.stc.set h { s.stc.get h with
        state := .fault, tag := none, detached := false, armTimer := false, printTimer := false }
      let told (effect : HeadEffect) := s.rpq.offer s.settings (.headFault h cause hand (s.stc.get h).state effect)
      let put (st : OrderState) (flag : FlagSet) := s.tru.transit.map (fun x =>
        if x.tag = hand then
          match x.stamp with
          | none => x
          | some o => { x with stamp := some { o with state := st }, flags := x.flags ||| flag }
        else x)
      ((s.stc.get h).state = .arming ∨ (s.stc.get h).state = .armed → exec c s = .next
          { s with stc := stc, rpq := told .returned, tru := { s.tru with transit := put .waiting 0#16 } })
      ∧ ((s.stc.get h).state = .printing → (s.stc.get h).detached = false → exec c s = .next
          { s with stc := stc, rpq := told .failed, tru := { s.tru with transit := put .failed 0x0400#16 } })
      ∧ ((s.stc.get h).state = .printing → (s.stc.get h).detached = true → exec c s = .next
          { s with stc := stc, rpq := told .detached })
      ∧ ((s.stc.get h).state = .idle → exec c s = .next { s with stc := stc, rpq := told .none }))
  ∧ (∀ (h : Fin 4) (tag : Tag) (code : Byte) (crc : BitVec 16) (s : State),
      (crc ≠ crc16 (0x83#8 :: (bytes16 tag ++ [code])) ∨ (s.stc.get h).state = .fault
          ∨ (tag ≠ 0#16 ∧ (s.stc.get h).tag ≠ some tag) → exec (.faultFrame h tag code crc) s = .next s)
      ∧ ((s.stc.get h).armTimer = false → exec (.armTimerExpiry h) s = .next s)
      ∧ ((s.stc.get h).printTimer = false → exec (.printTimerExpiry h) s = .next s))

/-- On a head's link bytes before a start byte are skipped, and the bytes of a frame are gathered until it is complete:
at 7 bytes when its kind is FAULT, at 6 when it is any other. The bytes of a READY, DONE or FAULT frame, one after
another, act as that frame, whatever its CRC bytes; a frame of any other kind is discarded after its first 6 bytes;
and the byte-gap timer discards a frame under way (R109, R203, R209). -/
def Obligations.HeadLinkGathersFrames : Prop :=
  ∀ (h : Fin 4) (s : State),
    let gather (bytes : List Byte) : State := { s with stc := s.stc.set h { s.stc.get h with gathered := bytes } }
    let arrive (bytes : List Byte) := execAll (bytes.map (Instr.headLinkByte h)) s
    (s.pins.resetAsserted = false →
      (∀ b, (s.stc.get h).gathered = [] →
        exec (.headLinkByte h b) s = .next (gather (if b = 0x3C#8 then [b] else [])))
      ∧ (∀ b frame, (s.stc.get h).gathered ≠ [] → frame = (s.stc.get h).gathered ++ [b] →
        frame.length < (if frame.getD 1 0 = 0x83#8 then 7 else 6) →
        exec (.headLinkByte h b) s = .next (gather frame))
      ∧ exec (.headLinkGapTimeout h) s = .next (gather []))
    ∧ ((s.stc.get h).gathered = [] → ∀ (tag : Tag) (code : Byte) (crc : BitVec 16),
      arrive ([0x3C#8, 0x81#8] ++ bytes16 tag ++ bytes16 crc) = exec (.ready h tag crc) s
      ∧ arrive ([0x3C#8, 0x82#8] ++ bytes16 tag ++ bytes16 crc) = exec (.done h tag crc) s
      ∧ arrive ([0x3C#8, 0x83#8] ++ bytes16 tag ++ [code] ++ bytes16 crc) = exec (.faultFrame h tag code crc) s
      ∧ ∀ kind, kind ∉ [0x81#8, 0x82#8, 0x83#8] → ∀ t1 t0 c1 c0, arrive [0x3C#8, kind, t1, t0, c1, c0] = .next s)

/-- HEAD CLEAR of a channel in FAULT makes it IDLE with no tag in hand and makes the arming check; of any other
channel it is BUSY, and of a head above 3 RANGE (R117). The arming check of an IDLE channel sends ARM for the
earliest of its head's WAITING orders, which becomes ARMING with its tag in hand and the arm timer started. That of
an ARMED channel does the same when the earliest WAITING order is earlier than the order in hand, which goes back
to WAITING, and does nothing when it is not. With no order WAITING, and on a channel ARMING, PRINTING or in FAULT,
it does nothing (R107, R110, R111, R209). -/
def Obligations.HeadClearAndArming : Prop :=
  (∀ (tag head : Byte) (s : State), s.listening →
      (3 < head.toNat → exec (.headClear tag head) s = .next (s.answers tag (.headClear head) (.refuse .range)))
      ∧ ∀ h : Fin 4, head.toNat = h.val →
        ((s.stc.get h).state ≠ .fault →
          exec (.headClear tag head) s = .next (s.answers tag (.headClear head) (.refuse .busy)))
        ∧ ((s.stc.get h).state = .fault →
          exec (.headClear tag head) s = .next ((armingCheck h { s with
            stc := s.stc.set h { s.stc.get h with
              state := .idle, tag := none, detached := false, armTimer := false, printTimer := false } }).answers
            tag (.headClear head) (.ok []))))
  ∧ (∀ (h : Fin 4) (s : State), (s.tru.transit.map (fun x => x.tag)).Nodup →
      let earlier (a : Entry) (o : Order) (b : Entry) (w : Order) : Prop :=
        (1 ≤ (w.fire - o.fire).toNat ∧ (w.fire - o.fire).toNat < 2 ^ 31)
          ∨ (w.fire = o.fire ∧ a.tag.toNat < b.tag.toNat)
      ((∀ x ∈ s.tru.transit, ∀ w ∈ x.stamp.toList, w.head = h → w.state ≠ .waiting) → armingCheck h s = s)
      ∧ ((s.stc.get h).state = .arming ∨ (s.stc.get h).state = .printing ∨ (s.stc.get h).state = .fault →
        armingCheck h s = s)
      ∧ ∀ (e : Entry) (o : Order), e ∈ s.tru.transit → e.stamp = some o → o.head = h → o.state = .waiting →
        (∀ x ∈ s.tru.transit, x ≠ e → ∀ w ∈ x.stamp.toList, w.head = h → w.state = .waiting → earlier e o x w) →
        let digit : Byte := match o.digit with
          | none => 0xFF#8
          | some d => BitVec.ofNat 8 d
        let sent := s.stc.set h { s.stc.get h with
          state := .arming
          tag := some e.tag
          detached := false
          armTimer := true
          printTimer := false
          sent := (s.stc.get h).sent ++ [headFrame 0x01#8 e.tag (field 2 o.whole ++ [digit, o.unit.code])] }
        let put (t : Tag) (w : Order) (st : OrderState) (l : List Entry) :=
          l.map (fun x => if x.tag = t then { x with stamp := some { w with state := st } } else x)
        ((s.stc.get h).state = .idle → armingCheck h s =
          { s with tru := { s.tru with transit := put e.tag o .arming s.tru.transit }, stc := sent })
        ∧ ∀ (e' : Entry) (o' : Order), (s.stc.get h).state = .armed → (s.stc.get h).tag = some e'.tag →
          e' ∈ s.tru.transit → e'.stamp = some o' → o'.head = h → o'.state = .armed →
          (earlier e o e' o' → armingCheck h s =
            { s with
              tru := { s.tru with transit := put e.tag o .arming (put e'.tag o' .waiting s.tru.transit) }
              stc := sent })
          ∧ (¬earlier e o e' o' → armingCheck h s = s))

/-- The HWM advance that reaches the fire position of the ARMED order in hand of a head, and nothing else, sends
FIRE: the order is FIRING, the channel PRINTING, and the print timer starts. The advance that reaches the miss
position of a WAITING or ARMING order, and nothing else, misses it: the order is MISSED, with reason HEAD_FAULT on
a channel in FAULT and LATE on any other, its hide gains MISSED and STAMP_MISS is submitted; an order that was in
hand leaves its channel IDLE; and the arming check follows, which on a channel PRINTING or in FAULT does nothing.
What a head does at an advance, whatever falls due there with it: the ARMED order in hand whose fire position the HWM
is at is fired; then every WAITING or ARMING order of the head whose miss position it is at is missed in the same
way, each with its own record, in ascending tag order; and after them, if there was any, the arming check is made
once (R110, R112, R118, R119; falling due at that advance is log entry 17, the fire before the misses log entry 1). -/
def Obligations.FirePositionFiresAndMissPositionMisses : Prop :=
  (∀ (a b : Bool) (e : Entry) (o : Order) (s : State), s.pins.resetAsserted = false →
    encoderPhase a b - encoderPhase s.pins.encoderA s.pins.encoderB = 1 → s.tcu.position = s.tcu.hwm →
    (∀ g ∈ s.tcu.grid.toList, s.mdc.mode.scans = true → g.nextPos ≠ s.tcu.hwm + 1) →
    (s.tru.transit.map (fun x => x.tag)).Nodup → e ∈ s.tru.transit → e.stamp = some o →
    (∀ x ∈ s.tru.transit, reached (s.tcu.hwm + 1) x.dropPos = false) →
    (∀ x ∈ s.tru.transit, x ≠ e → ∀ w ∈ x.stamp.toList, w.fire ≠ s.tcu.hwm + 1 ∧ w.missPos ≠ s.tcu.hwm + 1) →
    let moved := { s with
      pins := { s.pins with encoderA := a, encoderB := b }
      tcu := { s.tcu with
        position := s.tcu.position + 1
        hwm := s.tcu.hwm + 1
        direction := .forward
        stallTimer := s.tcu.stallTimer.map (fun _ => s.settings.stallTime) } }
    let put (st : OrderState) (flag : FlagSet) := s.tru.transit.map (fun x =>
      if x.tag = e.tag then { x with stamp := some { o with state := st }, flags := x.flags ||| flag } else x)
    (o.fire = s.tcu.hwm + 1 → o.missPos ≠ s.tcu.hwm + 1 → o.state = .armed →
      (s.stc.get o.head).state = .armed → (s.stc.get o.head).tag = some e.tag →
      exec (.encoderStep a b) s = .next
        { moved with
          tru := { s.tru with transit := put .firing 0#16 }
          stc := s.stc.set o.head { s.stc.get o.head with
            state := .printing
            armTimer := false
            printTimer := true
            sent := (s.stc.get o.head).sent ++ [headFrame 0x02#8 e.tag []] } })
    ∧ (o.missPos = s.tcu.hwm + 1 → o.fire ≠ s.tcu.hwm + 1 → o.state = .waiting ∨ o.state = .arming →
      let c := s.stc.get o.head
      let reason : MissReason := if c.state = .fault then .headFault else .late
      let missed := { moved with
        tru := { s.tru with transit := put (.missed reason) 0x0400#16 }
        rpq := s.rpq.offer s.settings
          (.stampMiss e.tag e.lane o.head reason o.state o.fire (s.tcu.hwm + 1)) }
      let freed := { missed with stc := s.stc.set o.head { c with
        state := .idle, tag := none, detached := false, armTimer := false, printTimer := false } }
      let inHand := (c.state = .arming ∨ c.state = .armed) ∧ c.tag = some e.tag
      (inHand → exec (.encoderStep a b) s = .next (armingCheck o.head freed))
      ∧ (¬inHand → exec (.encoderStep a b) s = .next (armingCheck o.head missed))
      ∧ (c.state = .printing ∨ c.state = .fault → exec (.encoderStep a b) s = .next missed)))
  ∧ ∀ (h : Fin 4) (s : State), (s.tru.transit.map (fun x => x.tag)).Nodup →
    let put (u : State) (e : Entry) (o : Order) (st : OrderState) (flag : FlagSet) : Tru := { u.tru with
      transit := u.tru.transit.map (fun x =>
        if x.tag = e.tag then { x with stamp := some { o with state := st }, flags := x.flags ||| flag } else x) }
    let firing (e : Entry) (o : Order) : Prop :=
      (s.stc.get h).state = .armed ∧ (s.stc.get h).tag = some e.tag ∧ o.head = h ∧ o.fire = s.tcu.hwm
    let fire (e : Entry) (o : Order) : State := { s with
      tru := put s e o .firing 0#16
      stc := s.stc.set h { s.stc.get h with
        state := .printing
        armTimer := false
        printTimer := true
        sent := (s.stc.get h).sent ++ [headFrame 0x02#8 e.tag []] } }
    let missing (o : Order) : Prop := o.head = h ∧ (o.state = .waiting ∨ o.state = .arming)
      ∧ o.fire + BitVec.ofNat 32 o.slip + 1 = s.tcu.hwm
    let miss (u : State) (x : Entry × Order) : State :=
      let c := u.stc.get h
      let reason : MissReason := if c.state = .fault then .headFault else .late
      { u with
        tru := put u x.1 x.2 (.missed reason) 0x0400#16
        rpq := u.rpq.offer u.settings
          (.stampMiss x.1.tag x.1.lane h reason x.2.state x.2.fire s.tcu.hwm)
        stc := if (c.state = .arming ∨ c.state = .armed) ∧ c.tag = some x.1.tag then
            u.stc.set h { c with state := .idle, tag := none, detached := false, armTimer := false, printTimer := false }
          else u.stc }
    ∀ (fired : State) (missed : List (Entry × Order)),
      ((∃ e ∈ s.tru.transit, ∃ o, e.stamp = some o ∧ o.state = .armed ∧ firing e o ∧ fired = fire e o)
        ∨ ((∀ e ∈ s.tru.transit, ∀ o, e.stamp = some o → ¬firing e o) ∧ fired = s)) →
      (∀ x, x ∈ missed ↔ x.1 ∈ s.tru.transit ∧ x.1.stamp = some x.2 ∧ missing x.2) →
      missed.Pairwise (fun x y => x.1.tag.toNat < y.1.tag.toNat) →
      stampAdvance h s = if missed = [] then fired else armingCheck h (missed.foldl miss fired)

/-- What becomes of a dropped entry's order: DONE is STAMPED, MISSED and FAILED stand, a print under way is FIRED and
its channel detached, and an order WAITING or ARMING is missed with MISSED on the hide and its STAMP_MISS record,
taken from its channel when it was in hand, before the arming check (R120). -/
def Obligations.DropSettlesTheOrder : Prop :=
  ∀ (e : Entry) (o : Order) (s : State),
    (e.stamp = none → settle e s = (.none, e.flags, s))
    ∧ (e.stamp = some o →
      (o.state = .done → settle e s = (.stamped, e.flags, s))
      ∧ (∀ reason, o.state = .missed reason → settle e s = (.missed, e.flags, s))
      ∧ (o.state = .failed → settle e s = (.failed, e.flags, s))
      ∧ (o.state = .firing → settle e s =
          (.fired, e.flags, { s with stc := s.stc.set o.head { s.stc.get o.head with detached := true } }))
      ∧ (o.state = .waiting ∨ o.state = .arming →
          let reason : MissReason := if (s.stc.get o.head).state = .fault then .headFault else .late
          let told := s.rpq.offer s.settings
            (.stampMiss e.tag e.lane o.head reason o.state o.fire s.tcu.hwm)
          let inHand := ((s.stc.get o.head).state = .arming ∨ (s.stc.get o.head).state = .armed)
            ∧ (s.stc.get o.head).tag = some e.tag
          (inHand → settle e s = (.missed, e.flags ||| 0x0400#16, armingCheck o.head { s with
            rpq := told
            stc := s.stc.set o.head { s.stc.get o.head with
              state := .idle, tag := none, detached := false, armTimer := false, printTimer := false } }))
          ∧ (¬inHand → settle e s = (.missed, e.flags ||| 0x0400#16, armingCheck o.head { s with rpq := told }))))

/-! ### Transit and drop (chapter 8) -/

/-- A closed hide without a lane is reported at once with UNLANED; one that finds 24 entries in transit with
UNTRACKED, after its TRANSIT_FULL occurrence; neither is inserted. Any other is inserted: its entry is formed with
its drop position, the in-flight count of each lot it joins rises by 1, a STAMP_MISS record is submitted for an
order created in MISSED, the entry is placed in the list, or dropped at once where its drop position is already
reached, and then, with its order WAITING, the arming check of its head is made (DropAtTheDropPosition says what a
drop does). A hide whose spot is FOUND, free of JOINED, SMALL, OVER and REF and in a lane that stamps, has an order
for the lane's head: F is the spot position plus the head distance in counts, and it is MISSED from the start with
LATE_CLOSE, and MISSED set, when F + S + 1 is already reached (R105, R106, R129, R155). The occurrence submits its
record and disarms an ARMED mark, and is counted, to at most 65535, at a DISARMED one (R126, R127, R128, R139,
R197). An entry placed in a list that stands in drop order leaves it in drop order: by drop position within 2³¹
counts beyond the HWM, and by tag where two are equal; and the list gains that entry alone (R124, R130). -/
def Obligations.ClosedHidesReachTheTransitUnit : Prop :=
  (∀ (m : ClosedHide) (lane : Fin 4) (s : State),
      let report (flag : FlagSet) : Record := .hide
        { tag := m.tag, lane := m.lane, area := m.area, figure := m.figure, unit := m.unit, fill := m.fill
          length := m.length, width := m.width, pieces := m.pieces, flags := m.flags ||| flag, fate := .none
          pack := none, lots := Quad.const false, outcome := .none }
      (m.lane = none → transitTakes m s = { s with rpq := s.rpq.offer s.settings (report 0x2000#16) })
      ∧ (∀ first rest, m.lane = some lane → s.tru.transit = first :: rest → 24 ≤ s.tru.transit.length →
        let full : Record := .transitFull m.tag lane s.tcu.hwm first.dropPos
        let n := s.rpq.transitFull.count
        let disarmed : Rpq := { s.rpq.offer s.settings full with transitFull := ⟨false, n⟩ }
        let counted : Rpq := { s.rpq with transitFull := ⟨false, min (n + 1) 65535⟩ }
        (s.rpq.transitFull.armed = true → transitTakes m s =
          { s with rpq := disarmed.offer s.settings (report 0x0800#16) })
        ∧ (s.rpq.transitFull.armed = false → transitTakes m s =
          { s with rpq := counted.offer s.settings (report 0x0800#16) }))
      ∧ (let e := s.settings.encoderStep
        let count (mm : Nat) : Count := BitVec.ofNat 32 ((mm * 1000 + e / 2) / e)
        let dropPos := m.lastPos + count (s.settings.dropDistance.get lane)
        let joins (i : Fin 4) : Bool := decide ((s.tlu.lots.get i).state = .opened)
          && (s.tlu.lots.get i).mask.testBit lane.val
          && decide ((s.tlu.lots.get i).hides + (s.tlu.lots.get i).inFlight < 65535)
          && decide (m.flags &&& 0x4080#16 = 0#16)
        let raised (i : Fin 4) : Lot :=
          if joins i then { s.tlu.lots.get i with inFlight := (s.tlu.lots.get i).inFlight + 1 } else s.tlu.lots.get i
        let entry : Entry :=
          { tag := m.tag, lane := lane, flags := m.flags, area := m.area, figure := m.figure, unit := m.unit
            length := m.length, width := m.width, fill := m.fill, pieces := m.pieces, dropPos := dropPos
            lots := ⟨joins 0, joins 1, joins 2, joins 3⟩, stamp := none }
        (m.lane = some lane → s.tru.transit.length < 24 → m.spot ≠ .found → reached s.tcu.hwm dropPos = false →
          transitTakes m s = { s with
            tru := { s.tru with transit := placeEntry entry s.tru.transit }
            tlu := { s.tlu with lots := ⟨raised 0, raised 1, raised 2, raised 3⟩ } })
        ∧ (m.lane = some lane → s.tru.transit.length < 24 →
          let entered := newEntry m lane s
          let told := match entered.stamp with
            | none => s.rpq
            | some o =>
                if o.state = .missed .lateClose then s.rpq.offer s.settings
                  (.stampMiss m.tag lane o.head .lateClose .waiting o.fire s.tcu.hwm)
                else s.rpq
          let joined := { s with
            tlu := { s.tlu with lots := ⟨raised 0, raised 1, raised 2, raised 3⟩ }, rpq := told }
          let left :=
            if reached s.tcu.hwm dropPos then dropEntry entered joined
            else { joined with tru := { s.tru with transit := placeEntry entered s.tru.transit } }
          transitTakes m s = (match entered.stamp with
            | none => left
            | some o => if o.state = .waiting then armingCheck o.head left else left))
        ∧ { newEntry m lane s with stamp := none, flags := m.flags } = entry
        ∧ (let fit := m.spot = .found ∧ m.flags &&& 0x4181#16 = 0#16 ∧ s.settings.stamping.get lane = true
          (¬fit ∨ s.settings.laneHead.get lane = none → (newEntry m lane s).stamp = none)
          ∧ ∀ h, fit → s.settings.laneHead.get lane = some h →
            let fire := m.spotPos + count (s.settings.headDistance.get h)
            let slip := (s.settings.slip * 1000 + e / 2) / e
            let late := reached s.tcu.hwm (fire + BitVec.ofNat 32 slip + 1) = true
            (newEntry m lane s).stamp = some
              { head := h
                fire := fire
                slip := slip
                state := if late then .missed .lateClose else .waiting
                whole := match m.unit with
                  | .quarterFoot => m.figure / 4
                  | .tenthFoot => m.figure / 10
                  | .decimetre => m.figure
                digit := match m.unit with
                  | .quarterFoot => some (m.figure % 4)
                  | .tenthFoot => some (m.figure % 10)
                  | .decimetre => none
                unit := m.unit }
            ∧ (newEntry m lane s).flags = if late then m.flags ||| 0x0400#16 else m.flags)))
  ∧ (∀ (hwm : Count) (e : Entry) (l : List Entry),
      let due (x : Entry) := (x.dropPos - hwm).toNat
      let inOrder (x y : Entry) := due x < due y ∨ (due x = due y ∧ x.tag.toNat < y.tag.toNat)
      (∀ x ∈ e :: l, due x < 2 ^ 31) → (∀ x ∈ l, x.tag ≠ e.tag) → l.Pairwise inOrder →
      (placeEntry e l).Pairwise inOrder ∧ (placeEntry e l).Perm (e :: l))

/-- The fate at drop: DIVERT at a gate for REF or a flag of the mask; else SCRAP for SMALL or REF; else PACK while
the lane's pack holds fewer than 999 hides; else, with PACKFULL, DIVERT at a gate and NONE without (R133, R136,
R137). -/
def Obligations.FateAtDrop : Prop :=
  ∀ (lane : Fin 4) (flags : FlagSet) (s : State),
    let gate := s.settings.gatePresent.get lane = true
    let ref := flags &&& 0x4000#16 ≠ 0#16
    let small := flags &&& 0x0080#16 ≠ 0#16
    let named := flags &&& s.settings.divertMask.get lane ≠ 0#16
    let room := (s.tlu.packs.get lane).hides < 999
    (gate → ref ∨ named → decideFate lane flags s = (.divert, flags))
    ∧ (¬(gate ∧ (ref ∨ named)) → small ∨ ref → decideFate lane flags s = (.scrap, flags))
    ∧ (¬(gate ∧ named) → ¬small → ¬ref → room → decideFate lane flags s = (.pack, flags))
    ∧ (¬(gate ∧ named) → ¬small → ¬ref → ¬room → gate →
        decideFate lane flags s = (.divert, flags ||| 0x1000#16))
    ∧ (¬small → ¬ref → ¬room → ¬gate → decideFate lane flags s = (.none, flags ||| 0x1000#16))

/-- The HWM advance that reaches the first entry's drop position, and nothing else, drops that entry, which has
left the list (R131; that nothing else is due is log entry 1, falling due at that advance log entry 17). A drop
settles the stamp part first (DropSettlesTheOrder; for an order still ARMED that is log entry 9), then decides the
fate with the flags that leaves (FateAtDrop), and does what the fate asks: PACK adds the hide to the lane's pack,
closes an OPEN pack that it brings to its target (PackClose says how), and adds the hide to every lot of its set;
SCRAP of a SMALL hide that is not the reference adds 1 to the pack's scrap count; DIVERT and NONE, PACKFULL or not,
tally nothing. Then, whatever the fate, each lot of the set has one hide less in flight, in ascending slot order,
and one CLOSING with none left closes (LotClose says how). DIVERT pulses the lane's gate and adds 1 to its divert
count. Last comes the hide result record, with the number the pack had at the tally and the whole lot set for PACK,
and neither for any other fate (R132, R134 to R139, R144 to R146, R156, R159). For an entry with no stamp part and
no lot the next state is written out. Every entry of the list's front whose drop position is reached is dropped at one
advance, in list order, each whole, and as the drop before it left the list, before the next (R131). At any advance
the line strobe, each head and the drops that fall due are taken each whole, one after another, in some order; where
two or more are due that order is a free value, one for each such advance (R4, R120, R131; log entry 1, DEDUCED). -/
def Obligations.DropAtTheDropPosition : Prop :=
  (∀ (a b : Bool) (e : Entry) (rest : List Entry) (s : State), s.pins.resetAsserted = false →
    encoderPhase a b - encoderPhase s.pins.encoderA s.pins.encoderB = 1 → s.tcu.position = s.tcu.hwm →
    (∀ g ∈ s.tcu.grid.toList, s.mdc.mode.scans = true → g.nextPos ≠ s.tcu.hwm + 1) →
    s.tru.transit = e :: rest → e.dropPos = s.tcu.hwm + 1 →
    (∀ x ∈ rest, reached (s.tcu.hwm + 1) x.dropPos = false) →
    (∀ x ∈ e :: rest, ∀ w ∈ x.stamp.toList, w.fire ≠ s.tcu.hwm + 1 ∧ w.missPos ≠ s.tcu.hwm + 1) →
    let moved := { s with
      pins := { s.pins with encoderA := a, encoderB := b }
      tcu := { s.tcu with
        position := s.tcu.position + 1
        hwm := s.tcu.hwm + 1
        direction := .forward
        stallTimer := s.tcu.stallTimer.map (fun _ => s.settings.stallTime) } }
    let report (fate : Fate) (pack : Option Nat) : Record := .hide
      { tag := e.tag, lane := some e.lane, area := e.area, figure := e.figure, unit := e.unit, fill := e.fill
        length := e.length, width := e.width, pieces := e.pieces, flags := e.flags, fate := fate, pack := pack
        lots := Quad.const false, outcome := .none }
    let p := s.tlu.packs.get e.lane
    let more := { p with hides := p.hides + 1, units := p.units + e.figure, area := p.area + e.area }
    let target := s.settings.target.get e.lane
    exec (.encoderStep a b) s = .next (dropEntry e { moved with tru := { s.tru with transit := rest } })
    ∧ (e.stamp = none → e.lots = Quad.const false → decideFate e.lane e.flags s = (.pack, e.flags) →
      ¬(p.state = .opened ∧ (target.mode = .count ∧ target.value ≤ more.hides
        ∨ target.mode = .area ∧ target.value ≤ more.units)) →
      exec (.encoderStep a b) s = .next
        { moved with
          tru := { s.tru with transit := rest }
          tlu := { s.tlu with packs := s.tlu.packs.set e.lane more }
          rpq := s.rpq.offer s.settings (report .pack (some p.number)) })
    ∧ (e.stamp = none → e.lots = Quad.const false → decideFate e.lane e.flags s = (.scrap, e.flags) →
      hasFlag e.flags .ref = false →
      exec (.encoderStep a b) s = .next
        { moved with
          tru := { s.tru with transit := rest }
          tlu := { s.tlu with packs := s.tlu.packs.set e.lane { p with scrap := min (p.scrap + 1) 65535 } }
          rpq := s.rpq.offer s.settings (report .scrap none) })
    ∧ (e.stamp = none → e.lots = Quad.const false → decideFate e.lane e.flags s = (.divert, e.flags) →
      exec (.encoderStep a b) s = .next
        { moved with
          tru := { s.tru with
            transit := rest
            gateLine := s.tru.gateLine.set e.lane true
            gateTimer := s.tru.gateTimer.set e.lane true
            diverts := s.tru.diverts.set e.lane (min (s.tru.diverts.get e.lane + 1) 65535) }
          rpq := s.rpq.offer s.settings (report .divert none) }))
  ∧ (∀ (e : Entry) (s : State),
    let settled := settle e s
    let u := settled.2.2
    let decided := decideFate e.lane settled.2.1 u
    let fate := decided.1
    let flags := decided.2
    let p := u.tlu.packs.get e.lane
    let more := { p with hides := p.hides + 1, units := p.units + e.figure, area := p.area + e.area }
    let target := u.settings.target.get e.lane
    let packed := { u with tlu := { u.tlu with packs := u.tlu.packs.set e.lane more } }
    let checked :=
      if p.state = .opened ∧ (target.mode = .count ∧ target.value ≤ more.hides
          ∨ target.mode = .area ∧ target.value ≤ more.units) then closePack e.lane .target packed
      else packed
    let counted (i : Fin 4) : Lot :=
      let l := u.tlu.lots.get i
      if e.lots.get i then { l with hides := l.hides + 1, units := l.units + e.figure, area := l.area + e.area } else l
    let tallied : State := match fate with
      | .pack => { checked with
          tlu := { checked.tlu with lots := ⟨counted 0, counted 1, counted 2, counted 3⟩ } }
      | .scrap =>
          if flags &&& 0x4080#16 = 0x0080#16 then { u with tlu := { u.tlu with
            packs := u.tlu.packs.set e.lane { p with scrap := min (p.scrap + 1) 65535 } } }
          else u
      | .divert | .none => u
    let lower (v : State) (i : Fin 4) : State :=
      let l := v.tlu.lots.get i
      let less := { l with inFlight := l.inFlight - 1 }
      let w := { v with tlu := { v.tlu with lots := v.tlu.lots.set i less } }
      if l.state = .closing ∧ l.inFlight - 1 = 0 then closeLot i w else w
    let released := (([0, 1, 2, 3] : List (Fin 4)).filter (fun i => e.lots.get i)).foldl lower tallied
    let gated :=
      if fate = .divert then { released with tru := { released.tru with
        gateLine := released.tru.gateLine.set e.lane true
        gateTimer := released.tru.gateTimer.set e.lane true
        diverts := released.tru.diverts.set e.lane (min (released.tru.diverts.get e.lane + 1) 65535) } }
      else released
    dropEntry e s = { gated with rpq := gated.rpq.offer gated.settings (.hide
      { tag := e.tag, lane := some e.lane, area := e.area, figure := e.figure, unit := e.unit, fill := e.fill
        length := e.length, width := e.width, pieces := e.pieces, flags := flags, fate := fate
        pack := if fate = .pack then some p.number else none
        lots := if fate = .pack then e.lots else Quad.const false
        outcome := settled.1 }) })
  ∧ (∀ s : State,
    let drop (u : State) : State := match u.tru.transit with
      | [] => u
      | e :: rest => dropEntry e { u with tru := { u.tru with transit := rest } }
    dropAdvance s = drop^[(s.tru.transit.takeWhile (fun e => reached s.tcu.hwm e.dropPos)).length] s)
  ∧ ∀ (a b : Bool) (s : State), s.pins.resetAsserted = false →
    encoderPhase a b - encoderPhase s.pins.encoderA s.pins.encoderB = 1 → s.tcu.position = s.tcu.hwm →
    (s.tru.transit.map (fun x => x.tag)).Nodup →
    let hwm := s.tcu.hwm + 1
    let moved := { s with
      pins := { s.pins with encoderA := a, encoderB := b }
      tcu := { s.tcu with
        position := s.tcu.position + 1
        hwm := hwm
        direction := .forward
        stallTimer := s.tcu.stallTimer.map (fun _ => s.settings.stallTime) } }
    let take (u : State) (i : DueItem) : State := match i with
      | .line => lineAdvance u
      | .stamp h => stampAdvance h u
      | .drops => dropAdvance u
    ∃ items : List DueItem, items.Nodup
      ∧ (.line ∈ items ↔ s.mdc.mode.scans = true ∧ ∃ g, s.tcu.grid = some g ∧ g.nextPos = hwm)
      ∧ (∀ h, .stamp h ∈ items ↔ ∃ e ∈ s.tru.transit, ∃ o, e.stamp = some o ∧ o.head = h
          ∧ (((s.stc.get h).state = .armed ∧ (s.stc.get h).tag = some e.tag ∧ o.fire = hwm)
            ∨ ((o.state = .waiting ∨ o.state = .arming) ∧ o.fire + BitVec.ofNat 32 o.slip + 1 = hwm)))
      ∧ (.drops ∈ items ↔ ∃ e rest, s.tru.transit = e :: rest ∧ reached hwm e.dropPos = true)
      ∧ exec (.encoderStep a b) s = .next (items.foldl take
          (if items.length < 2 then moved else { moved with openChoices := s.openChoices + 1 }))

/-- The expiry of a lane's gate pulse timer deasserts its gate line and that of its pack-change timer its pack-change
line; a stopped timer does not expire (R134, R150; log entry 10). -/
def Obligations.PulsesEnd : Prop :=
  ∀ (lane : Fin 4) (s : State), s.pins.resetAsserted = false →
    (s.tru.gateTimer.get lane = true → exec (.gatePulseTimerExpiry lane) s = .next
        { s with tru := { s.tru with
          gateLine := s.tru.gateLine.set lane false, gateTimer := s.tru.gateTimer.set lane false } })
    ∧ (s.tru.gateTimer.get lane = false → exec (.gatePulseTimerExpiry lane) s = .next s)
    ∧ (s.tlu.changeTimer.get lane = true → exec (.packChangeTimerExpiry lane) s = .next
        { s with tlu := { s.tlu with
          changeLine := s.tlu.changeLine.set lane false, changeTimer := s.tlu.changeTimer.set lane false } })
    ∧ (s.tlu.changeTimer.get lane = false → exec (.packChangeTimerExpiry lane) s = .next s)

/-! ### Packs, lots and tickets (chapter 9) -/

/-- PACK CLOSE in the order of its table: RANGE above lane 3, EMPTY of a pack that holds no hide, BUSY of one in
WAIT. Else, with room in the ticket store, the ticket is stored with the lane's divert count, which starts again at
0, the pack-change line is pulsed and the pack renewed; with 8 tickets stored the pack enters WAIT, waits last in the
list and asserts its pack-hold line. A pack that its target closes does the same with cause TARGET (R143, R147, R148,
R150 to R152, R161, R165). -/
def Obligations.PackClose : Prop :=
  (∀ (l : Fin 4) (cause : CloseCause) (s : State),
    let p := s.tlu.packs.get l
    let ticket : Ticket := ⟨.pack, l, p.number, p.hides, p.units, p.area, p.scrap, s.tru.diverts.get l, cause, false⟩
    (s.tlu.tickets.length < 8 → closePack l cause s = { s with
      tlu := { s.tlu with
        tickets := s.tlu.tickets ++ [ticket]
        changeLine := s.tlu.changeLine.set l true
        changeTimer := s.tlu.changeTimer.set l true
        packs := s.tlu.packs.set l ⟨if p.number < 65535 then p.number + 1 else 1, 0, 0, 0, 0, .opened, none⟩ }
      tru := { s.tru with diverts := s.tru.diverts.set l 0 }
      rpq := s.rpq.offer s.settings (.ticket ticket) })
    ∧ (8 ≤ s.tlu.tickets.length → closePack l cause s = { s with
      tlu := { s.tlu with
        packs := s.tlu.packs.set l { p with state := .wait, cause := some cause }
        waiters := s.tlu.waiters ++ [Waiter.pack l]
        holdLine := s.tlu.holdLine.set l true }
      rpq := s.rpq.offer s.settings
        (.packWait l p.number p.hides p.units cause (s.tlu.waiters.length + 1)) }))
  ∧ ∀ (tag lane : Byte) (s : State), s.listening →
    (3 < lane.toNat → exec (.packClose tag lane) s = .next (s.answers tag (.packClose lane) (.refuse .range)))
    ∧ ∀ l : Fin 4, lane.toNat = l.val →
      let p := s.tlu.packs.get l
      let ticket : Ticket := ⟨.pack, l, p.number, p.hides, p.units, p.area, p.scrap, s.tru.diverts.get l, .host, false⟩
      let renewed : Pack := ⟨if p.number < 65535 then p.number + 1 else 1, 0, 0, 0, 0, .opened, none⟩
      (p.hides = 0 → exec (.packClose tag lane) s = .next (s.answers tag (.packClose lane) (.refuse .empty)))
      ∧ (p.hides ≠ 0 → p.state = .wait →
        exec (.packClose tag lane) s = .next (s.answers tag (.packClose lane) (.refuse .busy)))
      ∧ (p.hides ≠ 0 → p.state = .opened → s.tlu.tickets.length < 8 →
        exec (.packClose tag lane) s = .next ({ s with
          tlu := { s.tlu with
            tickets := s.tlu.tickets ++ [ticket]
            changeLine := s.tlu.changeLine.set l true
            changeTimer := s.tlu.changeTimer.set l true
            packs := s.tlu.packs.set l renewed }
          tru := { s.tru with diverts := s.tru.diverts.set l 0 }
          rpq := s.rpq.offer s.settings (.ticket ticket) }.answers tag (.packClose lane)
            (.ok (lane :: field 2 p.number ++ [0#8]))))
      ∧ (p.hides ≠ 0 → p.state = .opened → 8 ≤ s.tlu.tickets.length →
        exec (.packClose tag lane) s = .next ({ s with
          tlu := { s.tlu with
            packs := s.tlu.packs.set l { p with state := .wait, cause := some .host }
            waiters := s.tlu.waiters ++ [Waiter.pack l]
            holdLine := s.tlu.holdLine.set l true }
          rpq := s.rpq.offer s.settings
            (.packWait l p.number p.hides p.units .host (s.tlu.waiters.length + 1)) }.answers tag (.packClose lane)
            (.ok (lane :: field 2 p.number ++ [1#8]))))

/-- PACK TARGET refuses with RANGE a lane above 3, a mode above 2, and a value out of range for its mode; else the
target is written, under NONE with value 0. A pack that is not OPEN, or does not meet the new target, stays as it is,
and the reply says so; one that meets it closes with cause TARGET, as PackClose says (R145, R153). -/
def Obligations.PackTarget : Prop :=
  ∀ (tag lane mode : Byte) (value : BitVec 32) (s : State), s.listening →
    let inRange := (mode = 0#8 ∧ 1 ≤ value.toNat ∧ value.toNat ≤ 999)
      ∨ (mode = 1#8 ∧ 1 ≤ value.toNat ∧ value.toNat ≤ 9999999) ∨ mode = 2#8
    let target : Target :=
      if mode = 0#8 then ⟨.count, value.toNat⟩ else if mode = 1#8 then ⟨.area, value.toNat⟩ else ⟨.none, 0⟩
    (3 < lane.toNat ∨ ¬inRange → exec (.packTarget tag lane mode value) s =
        .next (s.answers tag (.packTarget lane mode value) (.refuse .range)))
    ∧ ∀ l : Fin 4, lane.toNat = l.val → inRange →
      let p := s.tlu.packs.get l
      let meets := p.state = .opened ∧ ((mode = 0#8 ∧ value.toNat ≤ p.hides) ∨ (mode = 1#8 ∧ value.toNat ≤ p.units))
      let written := { s with settings := { s.settings with target := s.settings.target.set l target } }
      (¬meets → exec (.packTarget tag lane mode value) s =
          .next (written.answers tag (.packTarget lane mode value) (.ok [0#8, 0#8, 0xFF#8])))
      ∧ (meets → exec (.packTarget tag lane mode value) s =
          .next ((closePack l .target written).answers tag (.packTarget lane mode value)
            (.ok (field 2 p.number ++ [if s.tlu.tickets.length < 8 then 0#8 else 1#8]))))

/-- LOT OPEN in the order of its table: RANGE above slot 3, BUSY of a slot that is not FREE, RANGE of a number
outside 1 to 999,999 or a mask outside 1 to 15, and else OK with the slot OPEN under that number and mask and
everything else of the lot at 0 (R157). LOT READ answers RANGE above slot 3, and else OK with the slot's lot record
as it stands; it changes nothing, in every measuring state (R160). -/
def Obligations.LotOpenAndRead : Prop :=
  (∀ (tag slot : Byte) (number : BitVec 32) (mask : Byte) (s : State), s.listening →
      (3 < slot.toNat → exec (.lotOpen tag slot number mask) s =
          .next (s.answers tag (.lotOpen slot number mask) (.refuse .range)))
      ∧ ∀ i : Fin 4, slot.toNat = i.val →
        let fits := 1 ≤ number.toNat ∧ number.toNat ≤ 999999 ∧ 1 ≤ mask.toNat ∧ mask.toNat ≤ 15
        ((s.tlu.lots.get i).state ≠ .free → exec (.lotOpen tag slot number mask) s =
            .next (s.answers tag (.lotOpen slot number mask) (.refuse .busy)))
        ∧ ((s.tlu.lots.get i).state = .free → ¬fits → exec (.lotOpen tag slot number mask) s =
            .next (s.answers tag (.lotOpen slot number mask) (.refuse .range)))
        ∧ ((s.tlu.lots.get i).state = .free → fits → exec (.lotOpen tag slot number mask) s =
            .next ({ s with tlu := { s.tlu with
              lots := s.tlu.lots.set i ⟨.opened, number.toNat, mask.toNat, 0, 0, 0, 0, false⟩ } }.answers tag
              (.lotOpen slot number mask) (.ok []))))
  ∧ (∀ (tag slot : Byte) (s : State), s.listening →
      (3 < slot.toNat → exec (.lotRead tag slot) s = .next (s.answers tag (.lotRead slot) (.refuse .range)))
      ∧ ∀ i : Fin 4, slot.toNat = i.val →
        let l := s.tlu.lots.get i
        exec (.lotRead tag slot) s = .next (s.answers tag (.lotRead slot) (.ok
          ([l.state.code] ++ field 4 l.number ++ field 1 l.mask ++ field 2 l.hides ++ field 4 l.units
            ++ field 6 l.area ++ field 1 l.inFlight ++ [if l.mark then 1#8 else 0#8]))))

/-- LOT CLOSE is RANGE above slot 3 and BUSY of a slot FREE or CLOSING. An OPEN lot becomes CLOSING; with nothing in
flight it closes at once: its ticket is stored and its slot is FREE while the store has room, and else it is marked
and waits last in the list. A lot that a drop closes does the same (R156, R158, R159, R161, R163). -/
def Obligations.LotClose : Prop :=
  (∀ (i : Fin 4) (s : State),
    let l := s.tlu.lots.get i
    let ticket : Ticket := ⟨.lot, i, l.number, l.hides, l.units, l.area, 0, 0, .host, false⟩
    (s.tlu.tickets.length < 8 → closeLot i s = { s with
      tlu := { s.tlu with
        lots := s.tlu.lots.set i ⟨.free, 0, 0, 0, 0, 0, 0, false⟩, tickets := s.tlu.tickets ++ [ticket] }
      rpq := s.rpq.offer s.settings (.ticket ticket) })
    ∧ (8 ≤ s.tlu.tickets.length → closeLot i s = { s with
      tlu := { s.tlu with
        lots := s.tlu.lots.set i { l with mark := true }, waiters := s.tlu.waiters ++ [Waiter.lot i] } }))
  ∧ ∀ (tag slot : Byte) (s : State), s.listening →
    (3 < slot.toNat → exec (.lotClose tag slot) s = .next (s.answers tag (.lotClose slot) (.refuse .range)))
    ∧ ∀ i : Fin 4, slot.toNat = i.val →
      let l := s.tlu.lots.get i
      let ticket : Ticket := ⟨.lot, i, l.number, l.hides, l.units, l.area, 0, 0, .host, false⟩
      (l.state ≠ .opened →
        exec (.lotClose tag slot) s = .next (s.answers tag (.lotClose slot) (.refuse .busy)))
      ∧ (l.state = .opened → l.inFlight ≠ 0 → exec (.lotClose tag slot) s =
          .next ({ s with tlu := { s.tlu with lots := s.tlu.lots.set i { l with state := .closing } } }.answers tag
            (.lotClose slot) (.ok (slot :: field 1 l.inFlight ++ [0#8]))))
      ∧ (l.state = .opened → l.inFlight = 0 → s.tlu.tickets.length < 8 → exec (.lotClose tag slot) s =
          .next ({ s with
            tlu := { s.tlu with
              lots := s.tlu.lots.set i ⟨.free, 0, 0, 0, 0, 0, 0, false⟩
              tickets := s.tlu.tickets ++ [ticket] }
            rpq := s.rpq.offer s.settings (.ticket ticket) }.answers tag (.lotClose slot)
            (.ok [slot, 0#8, 1#8])))
      ∧ (l.state = .opened → l.inFlight = 0 → 8 ≤ s.tlu.tickets.length → exec (.lotClose tag slot) s =
          .next ({ s with
            tlu := { s.tlu with
              lots := s.tlu.lots.set i { l with state := .closing, mark := true }
              waiters := s.tlu.waiters ++ [Waiter.lot i] } }.answers tag (.lotClose slot) (.ok [slot, 0#8, 2#8])))

/-- TICKET answers EMPTY with an empty store; else it removes the oldest ticket, which the reply carries, and serves
the first waiter, if any: a pack's ticket is formed then, with OVERRUN, its close cause and the lane's divert count,
its hold line deasserted, its change line pulsed and the pack renewed; a lot's with OVERRUN, and its slot is FREE
(R162, R164, R165). -/
def Obligations.TicketRemovesTheOldest : Prop :=
  ∀ (tag : Byte) (s : State), s.listening →
    (s.tlu.tickets = [] → exec (.ticket tag) s = .next (s.answers tag .ticket (.refuse .empty)))
    ∧ ∀ (oldest : Ticket) (kept : List Ticket), s.tlu.tickets = oldest :: kept →
      let told : Answer := .ok (ticketBytes oldest)
      (s.tlu.waiters = [] → exec (.ticket tag) s =
        .next ({ s with tlu := { s.tlu with tickets := kept } }.answers tag .ticket told))
      ∧ (∀ (l : Fin 4) (waiting : List Waiter) (cause : CloseCause),
          s.tlu.waiters = .pack l :: waiting → (s.tlu.packs.get l).cause = some cause →
          let p := s.tlu.packs.get l
          let ticket : Ticket :=
            ⟨.pack, l, p.number, p.hides, p.units, p.area, p.scrap, s.tru.diverts.get l, cause, true⟩
          exec (.ticket tag) s = .next ({ s with
            tlu := { s.tlu with
              tickets := kept ++ [ticket]
              waiters := waiting
              holdLine := s.tlu.holdLine.set l false
              changeLine := s.tlu.changeLine.set l true
              changeTimer := s.tlu.changeTimer.set l true
              packs := s.tlu.packs.set l
                ⟨if p.number < 65535 then p.number + 1 else 1, 0, 0, 0, 0, .opened, none⟩ }
            tru := { s.tru with diverts := s.tru.diverts.set l 0 }
            rpq := s.rpq.offer s.settings (.ticket ticket) }.answers tag .ticket told))
      ∧ (∀ (i : Fin 4) (waiting : List Waiter), s.tlu.waiters = .lot i :: waiting →
          let l := s.tlu.lots.get i
          let ticket : Ticket := ⟨.lot, i, l.number, l.hides, l.units, l.area, 0, 0, .host, true⟩
          exec (.ticket tag) s = .next ({ s with
            tlu := { s.tlu with
              tickets := kept ++ [ticket]
              waiters := waiting
              lots := s.tlu.lots.set i ⟨.free, 0, 0, 0, 0, 0, 0, false⟩ }
            rpq := s.rpq.offer s.settings (.ticket ticket) }.answers tag .ticket told))

/-! ### Measuring states (chapter 10) -/

/-- START in IDLE sets the grid one line interval beyond the HWM at line 0; RESUME in PAUSE sets it there at the line
number kept; both begin scanning and tracking and enter RUN with a fresh stall timer. CLEAR in FAULT returns to IDLE.
Each submits its MODE record (R6, R7, R10, R12, R57, R170, R172, R174, R178). The requests of the Mode Controller
that a measuring state does not take are answered BUSY and change nothing (R169). -/
def Obligations.StartResumeClearAndBusy : Prop :=
  (∀ (tag : Byte) (s : State), s.listening →
      let next := s.tcu.hwm + BitVec.ofNat 32 s.settings.lineInterval
      let timer := if s.pins.beltRun then some s.settings.stallTime else none
      let slr := { s.slr with scanning := true, outstanding := none, lastGood := 0#1024, badCount := 0 }
      let htk := { s.htk with tracking := true, shadow := [] }
      (s.mdc.mode = .idle → exec (.start tag) s = .next ({ s with
        mdc := ⟨.run, .none⟩
        tcu := { s.tcu with grid := some ⟨next, 0, next⟩, stallTimer := timer }
        slr := slr
        htk := htk
        rpq := s.rpq.offer s.settings (.mode .idle .run .start s.tcu.hwm 0 0) }.answers tag .start (.ok [1#8])))
      ∧ (∀ g, s.mdc.mode = .pause → s.tcu.grid = some g → exec (.resume tag) s = .next ({ s with
        mdc := ⟨.run, .none⟩
        tcu := { s.tcu with
          grid := some ⟨next - g.nextLine * BitVec.ofNat 32 s.settings.lineInterval, g.nextLine, next⟩
          stallTimer := timer }
        slr := slr
        htk := htk
        rpq := s.rpq.offer s.settings (.mode .pause .run .resume s.tcu.hwm g.nextLine 0) }.answers tag .resume
          (.ok [1#8])))
      ∧ (s.mdc.mode = .fault → exec (.clear tag) s = .next ({ s with
        mdc := ⟨.idle, .none⟩
        tcu := { s.tcu with stallTimer := none }
        rpq := s.rpq.offer s.settings
          (.mode .fault .idle .clear s.tcu.hwm (nextLineNumber s) 0) }.answers tag .clear (.ok [0#8]))))
  ∧ (∀ (tag : Byte) (s : State), s.listening →
      (s.mdc.mode ≠ .idle → exec (.start tag) s = .next (s.answers tag .start (.refuse .busy)))
      ∧ (s.mdc.mode ≠ .run → exec (.pause tag) s = .next (s.answers tag .pause (.refuse .busy)))
      ∧ (s.mdc.mode ≠ .pause → exec (.resume tag) s = .next (s.answers tag .resume (.refuse .busy)))
      ∧ (s.mdc.mode = .idle ∨ s.mdc.mode = .fault → exec (.stop tag) s = .next (s.answers tag .stop (.refuse .busy)))
      ∧ (s.mdc.mode ≠ .fault → exec (.clear tag) s = .next (s.answers tag .clear (.refuse .busy))))

/-- CALIB is BUSY outside IDLE and RANGE for a reference area outside 100,000 to 10,000,000; else the calibration is
WAITING with that area and the part enters CALIBRATE as START enters RUN (R78, R175). -/
def Obligations.CalibEntersCalibrate : Prop :=
  ∀ (tag : Byte) (aRef : BitVec 32) (s : State), s.listening →
    let next := s.tcu.hwm + BitVec.ofNat 32 s.settings.lineInterval
    (s.mdc.mode ≠ .idle → exec (.calib tag aRef) s = .next (s.answers tag (.calib aRef) (.refuse .busy)))
    ∧ (s.mdc.mode = .idle → ¬(100000 ≤ aRef.toNat ∧ aRef.toNat ≤ 10000000) →
      exec (.calib tag aRef) s = .next (s.answers tag (.calib aRef) (.refuse .range)))
    ∧ (s.mdc.mode = .idle → 100000 ≤ aRef.toNat → aRef.toNat ≤ 10000000 →
      exec (.calib tag aRef) s = .next ({ s with
        cal := .waiting aRef.toNat
        mdc := ⟨.calibrate, .none⟩
        tcu := { s.tcu with
          grid := some ⟨next, 0, next⟩
          stallTimer := if s.pins.beltRun then some s.settings.stallTime else none }
        slr := { s.slr with scanning := true, outstanding := none, lastGood := 0#1024, badCount := 0 }
        htk := { s.htk with tracking := true, shadow := [] }
        rpq := s.rpq.offer s.settings (.mode .idle .calibrate .calib s.tcu.hwm 0 0) }.answers tag (.calib aRef)
          (.ok [3#8])))

/-- PAUSE in RUN, and STOP in RUN, PAUSE and CALIBRATE, end scanning, hand on every open hide with CUT, enter PAUSE or
IDLE, and submit the MODE record last, with the number of hides that the close-all closed; STOP ends a calibration
first, and reports one that was WAITING as ABORTED (R12, R55, R82, R84, R171, R173, R178). A close-all hands on every
open hide once, in ascending tag order, each with the flags of the close-all added to its own and NOSPOT added unless
its spot is FOUND (R54, R55, R100, R101). Hides are handed on one after another, each whole before the next: it is
offered to the calibration with its raw area, then measured with the settings that the offer leaves, and then taken by
the Transit Unit (R54, R60, R62, R65, R74). -/
def Obligations.PauseAndStopCloseEveryHide : Prop :=
  (∀ (tag : Byte) (s : State), s.listening → s.marksAgree →
      let ended := { s.slr with scanning := false, outstanding := none, gathered := [] }
      let htk := { s.htk with table := [], shadow := [], tracking := false }
      let aborted := match s.cal with
        | .waiting aRef =>
            s.rpq.offer s.settings (.calResult .aborted 0#16 aRef 0 0#16 s.settings.gain 0)
        | .none | .ending => s.rpq
      (s.mdc.mode = .run →
        let t := s.measuringEnded 0x0010#16 .pause .none .pause
        exec (.pause tag) s = .next (t.answers tag .pause (.ok [2#8]))
        ∧ t.mdc = ⟨.pause, .none⟩ ∧ t.slr = ended ∧ t.htk = htk
        ∧ t.tcu = { s.tcu with stallTimer := if s.pins.beltRun then some s.settings.stallTime else none }
        ∧ t.cal = s.cal ∧ t.settings = s.settings ∧ t.lcn = s.lcn ∧ t.cml = s.cml
        ∧ (s.htk.table = [] → t.stc = s.stc ∧ t.tru = s.tru ∧ t.tlu = s.tlu
            ∧ t.rpq = s.rpq.offer s.settings (.mode .run .pause .pause s.tcu.hwm (nextLineNumber s) 0)))
      ∧ (s.mdc.mode = .run ∨ s.mdc.mode = .pause ∨ s.mdc.mode = .calibrate →
        let t := { s with cal := .none, rpq := aborted }.measuringEnded 0x0010#16 .idle .none .stop
        exec (.stop tag) s = .next (t.answers tag .stop (.ok [0#8]))
        ∧ t.mdc = ⟨.idle, .none⟩ ∧ t.slr = (if s.mdc.mode = .pause then s.slr else ended) ∧ t.htk = htk
        ∧ t.tcu = { s.tcu with stallTimer := none }
        ∧ t.cal = .none ∧ t.settings = s.settings ∧ t.lcn = s.lcn ∧ t.cml = s.cml
        ∧ (s.htk.table = [] → t.stc = s.stc ∧ t.tru = s.tru ∧ t.tlu = s.tlu
            ∧ t.rpq = aborted.offer s.settings
              (.mode s.mdc.mode .idle .stop s.tcu.hwm (nextLineNumber s) 0))))
  ∧ (∀ (flags : FlagSet) (table : List Hide),
      let handed := closingHides flags table
      handed.Perm (table.map (fun h => { h with
        flags := h.flags ||| flags ||| (if h.spot.state = .found then 0#16 else 0x0200#16) }))
      ∧ handed.Pairwise (fun a b => a.tag.toNat ≤ b.tag.toNat))
  ∧ (∀ (h : Hide) (later : List Hide) (s : State),
      let raw := (h.widthSum * (s.settings.encoderStep * s.settings.lineInterval) + 500000) / 1000000
      let offered := offerHide h.tag raw h.flags s
      handOnAll [] s = s
      ∧ handOnAll (h :: later) s = handOnAll later
          (transitTakes (measureHide offered.2.settings offered.2.lcn.widths h raw offered.1) offered.2))

/-! ### The host link (chapters 11 and 13) -/

/-- The receiver byte by byte: hunting, it skips all but A5h; gathering, it takes a length of 2 to 250 and that
many bytes and two more; a bad length, a wrong CRC, a byte without its stop bit and the expiry of the byte-gap
timer end the telegram with a link error, counted to at most 65535 (R180, R182, R183). That the expiry of the timer
while hunting changes nothing is the model's choice (log entry 10). -/
def Obligations.HostBytesAreGathered : Prop :=
  ∀ (b : Byte) (stop : Bool) (s : State), s.pins.resetAsserted = false →
    let failed := { s with cml := { s.cml with receiver := .hunting, linkErrors := min (s.cml.linkErrors + 1) 65535 } }
    let gather (bytes : List Byte) := { s with cml := { s.cml with receiver := .gathering bytes } }
    (s.cml.receiver = .hunting →
      exec (.hostByte b stop) s = .next (if stop = true ∧ b = 0xA5#8 then gather [] else s)
      ∧ exec .byteGapTimeout s = .next s)
    ∧ ∀ bytes, s.cml.receiver = .gathering bytes →
      exec .byteGapTimeout s = .next failed
      ∧ (stop = false → exec (.hostByte b stop) s = .next failed)
      ∧ (stop = true → bytes = [] →
          exec (.hostByte b stop) s = .next (if 2 ≤ b.toNat ∧ b.toNat ≤ 250 then gather [b] else failed))
      ∧ (stop = true → ∀ length rest, bytes = length :: rest → rest.length + 2 < length.toNat + 3 →
          exec (.hostByte b stop) s = .next (gather (bytes ++ [b])))
      ∧ (stop = true → ∀ length rest, bytes = length :: rest → rest.length + 2 = length.toNat + 3 →
          (bytes ++ [b]).drop (length.toNat + 1) ≠ bytes16 (crc16 (bytes.take (length.toNat + 1))) →
          exec (.hostByte b stop) s = .next failed)

/-- The bytes of a request telegram, each with its stop bit, received while hunting, act as the command of that
request: no operand is lost on the way, for every request (R181, R182, R184, R186, R205; that a request's row is the
arrival of its telegram is log entry 4, and the operands of the rows are log entry 21). -/
def Obligations.TelegramBytesMakeTheRequest : Prop :=
  ∀ (c : Instr) (kind tag : Byte) (payload : List Byte) (s : State),
    hostTelegram c = some (kind, tag, payload) → c.wf = true → s.cml.receiver = .hunting →
    execAll ((telegramBytes kind tag payload).map (fun b => Instr.hostByte b true)) s = exec c s

/-- While a reply is being sent a request waits in the second place, and with both places held it is discarded with a
link error. The end of a reply frees its request's place and makes the waiting request act as if it arrived then; with
no reply being sent there is nothing to end (R183, R184, R185; that a request's row is the arrival of its telegram is
log entry 4, and the reply held until its end log entry 15). -/
def Obligations.ReceiveBufferHasTwoPlaces : Prop :=
  ∀ (c : Instr) (kind tag : Byte) (payload reply : List Byte) (first : Telegram) (s : State),
    s.pins.resetAsserted = false → hostTelegram c = some (kind, tag, payload) → c.wf = true →
    let second : Telegram := ⟨tag, parseRequest kind payload⟩
    let free (buffer : List Telegram) := { s with cml := { s.cml with reply := none, buffer := buffer } }
    (s.cml.reply = some reply → s.cml.buffer = [first] →
      exec c s = .next { s with cml := { s.cml with buffer := [first, second] } }
      ∧ exec .replySent s = .next (free []))
    ∧ (2 ≤ s.cml.buffer.length →
      exec c s = .next { s with cml := { s.cml with linkErrors := min (s.cml.linkErrors + 1) 65535 } })
    ∧ (s.cml.reply = some reply → s.cml.buffer = [first, second] →
      exec .replySent s = exec c (free []))
    ∧ (s.cml.reply = none → exec .replySent s = .next s)

/-- A request of a kind that names none is answered UNKNOWN; a payload whose length does not fit its kind, and a list
of no width or of more than 60, is answered FORMAT, and so is a WIDTHS LOAD whose length is not 3 bytes and two for
each of the 1 to 60 widths it declares; none changes anything (R186, R205; how the rows carry a request that does not
fit is log entry 21). -/
def Obligations.UnfitRequestsAreRefused : Prop :=
  ∀ (tag kind : Byte) (payload : List Byte) (start : BitVec 16) (widths : List (BitVec 16)) (s : State), s.listening →
    (kind = 0#8 ∨ 0x18 < kind.toNat → exec (.requestUnknown tag kind payload) s =
        .next (s.answers tag (.unknown kind) (.refuse .unknown)))
    ∧ (widths = [] ∨ 60 < widths.length → exec (.widthsLoad tag start widths) s =
        .next (s.answers tag (.badFormat 0x04#8) (.refuse .format)))
    ∧ (kind = 0x04#8 → payload.length < 3 ∨ ¬(1 ≤ (payload.getD 2 0#8).toNat ∧ (payload.getD 2 0#8).toNat ≤ 60)
          ∨ payload.length ≠ 3 + 2 * (payload.getD 2 0#8).toNat →
        receive ⟨tag, parseRequest kind payload⟩ s = s.answers tag (.badFormat kind) (.refuse .format)
        ∧ exec (.requestUnknown tag kind payload) s = .next (s.answers tag (.badFormat kind) (.refuse .format)))
    ∧ ∀ n, (kind.toNat, n) ∈ [(0x01, 0), (0x02, 5), (0x03, 1), (0x05, 3), (0x06, 2), (0x07, 2), (0x08, 0), (0x09, 0),
          (0x0A, 0), (0x0B, 0), (0x0C, 0), (0x0D, 0), (0x0E, 4), (0x0F, 1), (0x10, 0), (0x11, 1), (0x12, 6),
          (0x13, 6), (0x14, 1), (0x15, 1), (0x16, 1), (0x17, 1), (0x18, 0)] → payload.length ≠ n →
        receive ⟨tag, parseRequest kind payload⟩ s = s.answers tag (.badFormat kind) (.refuse .format)
        ∧ exec (.requestUnknown tag kind payload) s = .next (s.answers tag (.badFormat kind) (.refuse .format))

/-- STATUS gives the 33 bytes of R206: state, cause, position, HWM, direction, the five depths, drop count, tickets,
waiters, head channels, link errors, both one-shot marks with their counts, and the number of stuck cells. -/
def Obligations.StatusReportsTheState : Prop :=
  ∀ (tag : Byte) (s : State), s.listening → s.withinCapacity →
    s.lcn.marked.length ≤ 1024 →
    let byte (n : Nat) : List Byte := [BitVec.ofNat 8 n]
    let word (n : Nat) : List Byte := [BitVec.ofNat 8 (n / 256), BitVec.ofNat 8 n]
    let mark (b : Bool) : List Byte := if b then [1#8] else [0#8]
    ∃ data, exec (.status tag) s = .next (s.answers tag .status (.ok data))
      ∧ data = [s.mdc.mode.code, s.mdc.cause.code] ++ bytes32 s.tcu.position ++ bytes32 s.tcu.hwm
        ++ [s.tcu.direction.code] ++ byte s.htk.table.length ++ byte s.htk.shadow.length
        ++ byte s.tru.transit.length ++ byte s.rpq.queue.length ++ word s.rpq.dropCount
        ++ byte s.tlu.tickets.length ++ byte s.tlu.waiters.length
        ++ [(s.stc.get 0).state.code, (s.stc.get 1).state.code, (s.stc.get 2).state.code, (s.stc.get 3).state.code]
        ++ word s.cml.linkErrors ++ mark s.rpq.tableFull.armed ++ word s.rpq.tableFull.count
        ++ mark s.rpq.transitFull.armed ++ word s.rpq.transitFull.count ++ word s.lcn.marked.length
      ∧ data.length = 33

/-- SET of a setting that only a range checks: an id outside the table is NOT_FOUND; one that needs IDLE with no open
hide is BUSY at any other time; a value out of range is RANGE; else that setting is written, nothing else, and the
reply carries the id and the value (R187, section 11.4). SET of encoder step or line interval is refused with RANGE
when the pitch would exceed 20,000 µm. SET of divert gate present to NO deasserts the lane's gate line and stops its
timer. SET of the ATTN threshold evaluates ATTN at once (R5, R134, R188, R200, R201). SET of any setting: BUSY when
its condition does not hold, RANGE when its checks refuse the value, and else the settings as written, with the value
held in the reply; a target that closes no pack says so in the reply (R187). The conditions and checks of every
other setting, one by one: sale unit and rounding mode need IDLE, no transit entry and every pack and lot empty, with
nothing in flight (R67, R68); a window keeps its cells in order and on the line and, enabled, shares no cell with
another enabled one; a lane's drop distance stays 100 mm beyond the head it names, whichever of the three settings is
written; a footprint ends at cell 1023 or below; a divert mask has no bit but 0 to 5 and 7 to 10; a target is in the
range of its mode and closes an OPEN pack that meets it (R133, R145, R153, R188, R204). -/
def Obligations.SetWritesASetting : Prop :=
  ((∀ (tag id : Byte) (value : BitVec 32) (s : State), s.listening →
        (id = 0#8 ∨ (20 < id.toNat ∧ id.toNat < 32) ∨ (59 < id.toNat ∧ id.toNat < 64) ∨ 75 < id.toNat →
          exec (.set tag id value) s = .next (s.answers tag (.set id value) (.refuse .notFound)))
        ∧ ∀ row ∈ plainNumbers, row.id = id →
          let free := row.idle = false ∨ (s.mdc.mode = .idle ∧ s.htk.table = [])
          let inside := row.low ≤ value.toNat ∧ value.toNat ≤ row.high
          (¬free → exec (.set tag id value) s = .next (s.answers tag (.set id value) (.refuse .busy)))
          ∧ (free → ¬inside → exec (.set tag id value) s = .next (s.answers tag (.set id value) (.refuse .range)))
          ∧ (free → inside → exec (.set tag id value) s =
              .next ({ s with settings := row.put s.settings value.toNat }.answers tag (.set id value)
                (.ok (id :: bytes32 value)))))
    ∧ (∀ (tag : Byte) (value : BitVec 32) (lane : Fin 4) (s : State), s.listening →
        let v := value.toNat
        let ok (id : Byte) (t : State) : Result := .next (t.answers tag (.set id value) (.ok (id :: bytes32 value)))
        let no (id : Byte) : Result := .next (s.answers tag (.set id value) (.refuse .range))
        let gate : Byte := BitVec.ofNat 8 (48 + lane.val)
        (s.mdc.mode = .idle → s.htk.table = [] →
          (50 ≤ v ∧ v ≤ 2000 ∧ v * s.settings.lineInterval ≤ 20000 → exec (.set tag 1#8 value) s =
            ok 1#8 { s with settings := { s.settings with encoderStep := v } })
          ∧ (¬(50 ≤ v ∧ v ≤ 2000 ∧ v * s.settings.lineInterval ≤ 20000) → exec (.set tag 1#8 value) s = no 1#8)
          ∧ (1 ≤ v ∧ v ≤ 64 ∧ s.settings.encoderStep * v ≤ 20000 → exec (.set tag 2#8 value) s =
            ok 2#8 { s with settings := { s.settings with lineInterval := v } })
          ∧ (¬(1 ≤ v ∧ v ≤ 64 ∧ s.settings.encoderStep * v ≤ 20000) → exec (.set tag 2#8 value) s = no 2#8))
        ∧ (s.mdc.mode = .idle →
          (v = 0 → exec (.set tag gate value) s = ok gate { s with
            settings := { s.settings with gatePresent := s.settings.gatePresent.set lane false }
            tru := { s.tru with
              gateLine := s.tru.gateLine.set lane false, gateTimer := s.tru.gateTimer.set lane false } })
          ∧ (v = 1 → exec (.set tag gate value) s = ok gate { s with
            settings := { s.settings with gatePresent := s.settings.gatePresent.set lane true } })
          ∧ (1 < v → exec (.set tag gate value) s = no gate))
        ∧ (v ≤ 31 → exec (.set tag 20#8 value) s = ok 20#8 { s with
            settings := { s.settings with attnThreshold := v }
            rpq := { s.rpq with attn := decide (v < s.rpq.queue.length) } })
        ∧ (31 < v → exec (.set tag 20#8 value) s = no 20#8)))
  ∧ (∀ (tag id : Byte) (value : BitVec 32) (x : Setting) (s : State), s.listening → settingOf id = some x →
      (x.when.met s = false → exec (.set tag id value) s = .next (s.answers tag (.set id value) (.refuse .busy)))
      ∧ (x.when.met s = true → x.written value.toNat s.settings = none →
          exec (.set tag id value) s = .next (s.answers tag (.set id value) (.refuse .range)))
      ∧ ∀ c, x.when.met s = true → x.written value.toNat s.settings = some c →
        let held := id :: bytes32 (BitVec.ofNat 32 (x.value c))
        ((∀ l, x ≠ .target l ∧ x ≠ .gatePresent l) → x ≠ .attnThreshold → exec (.set tag id value) s =
          .next ({ s with settings := c }.answers tag (.set id value) (.ok held)))
        ∧ (∀ l, x = .target l → (s.tlu.packs.get l).state ≠ .opened → exec (.set tag id value) s =
          .next ({ s with settings := c }.answers tag (.set id value) (.ok (held ++ [0#8, 0#8, 0xFF#8]))))
        ∧ (∀ l, x = .target l → (s.tlu.packs.get l).state = .opened → exec (.set tag id value) s =
          if (s.tlu.packs.get l).meets (c.target.get l) then
            .next ((closePack l .target { s with settings := c }).answers tag (.set id value)
              (.ok (held ++ field 2 (s.tlu.packs.get l).number ++ [if s.tlu.tickets.length < 8 then 0#8 else 1#8])))
          else .next ({ s with settings := c }.answers tag (.set id value) (.ok (held ++ [0#8, 0#8, 0xFF#8])))))
  ∧ (∀ (tag : Byte) (value : BitVec 32) (n : Fin 4) (s : State), s.listening →
      let v := value.toNat
      let c := s.settings
      let idle : Prop := s.mdc.mode = .idle
      let quiet : Prop := idle ∧ s.htk.table = []
      let unmeasured : Prop := idle ∧ s.tru.transit = [] ∧ ∀ i : Fin 4,
        (s.tlu.packs.get i).hides = 0 ∧ (s.tlu.lots.get i).hides = 0 ∧ (s.tlu.lots.get i).inFlight = 0
      let id (base : Nat) : Byte := BitVec.ofNat 8 (base + n.val)
      let reply (id : Byte) (t : State) (a : Answer) : Result := .next (t.answers tag (.set id value) a)
      let row (id : Byte) (free fits : Prop) (c : Settings) : Prop :=
        (¬free → exec (.set tag id value) s = reply id s (.refuse .busy))
        ∧ (free → ¬fits → exec (.set tag id value) s = reply id s (.refuse .range))
        ∧ (free → fits → exec (.set tag id value) s =
            reply id { s with settings := c } (.ok (id :: bytes32 value)))
      row 1#8 quiet (50 ≤ v ∧ v ≤ 2000 ∧ v * c.lineInterval ≤ 20000) { c with encoderStep := v }
      ∧ row 2#8 quiet (1 ≤ v ∧ v ≤ 64 ∧ c.encoderStep * v ≤ 20000) { c with lineInterval := v }
      ∧ row 8#8 True (v ≤ 1) { c with autoMask := decide (v = 1) }
      ∧ row 16#8 unmeasured (v ≤ 2)
        { c with saleUnit := if v = 0 then .quarterFoot else if v = 1 then .tenthFoot else .decimetre }
      ∧ row 17#8 unmeasured (v ≤ 1) { c with rounding := if v = 0 then .nearest else .down }
      ∧ (let enabled := decide (v / 2 ^ 24 = 1)
        let first := v / 2 ^ 12 % 2 ^ 12
        let last := v % 2 ^ 12
        row (id 32) quiet (v < 2 ^ 25 ∧ first ≤ last ∧ last ≤ 1023
            ∧ (enabled = true → ∀ j, j ≠ n → (c.window.get j).enabled = true →
              last < (c.window.get j).first ∨ (c.window.get j).last < first))
          { c with window := c.window.set n ⟨enabled, first, last⟩ })
      ∧ row (id 36) quiet (v = 255 ∨ ∃ h : Fin 4, v = h.val ∧ c.headDistance.get h + 100 ≤ c.dropDistance.get n)
        { c with laneHead := c.laneHead.set n (if h : v < 4 then some ⟨v, h⟩ else none) }
      ∧ row (id 40) True (v ≤ 1) { c with stamping := c.stamping.set n (decide (v = 1)) }
      ∧ row (id 44) quiet (500 ≤ v ∧ v ≤ 20000
          ∧ ∀ h, c.laneHead.get n = some h → c.headDistance.get h + 100 ≤ v)
        { c with dropDistance := c.dropDistance.set n v }
      ∧ (¬idle → exec (.set tag (id 48) value) s = reply (id 48) s (.refuse .busy))
      ∧ row (id 52) True (value &&& 0xFFFFF840#32 = 0#32)
        { c with divertMask := c.divertMask.set n (BitVec.ofNat 16 v) }
      ∧ (let mode := v / 2 ^ 24
        let number := v % 2 ^ 24
        let fits := (mode = 0 ∧ 1 ≤ number ∧ number ≤ 999) ∨ (mode = 1 ∧ 1 ≤ number ∧ number ≤ 9999999) ∨ mode = 2
        let target : Target := if mode = 0 then ⟨.count, number⟩ else if mode = 1 then ⟨.area, number⟩ else ⟨.none, 0⟩
        let held := id 56 :: bytes32 (if mode = 2 then 0x02000000#32 else value)
        let written := { s with settings := { c with target := c.target.set n target } }
        let p := s.tlu.packs.get n
        let met := p.state = .opened ∧ (mode = 0 ∧ number ≤ p.hides ∨ mode = 1 ∧ number ≤ p.units)
        (¬fits → exec (.set tag (id 56) value) s = reply (id 56) s (.refuse .range))
        ∧ (fits → ¬met → exec (.set tag (id 56) value) s =
            reply (id 56) written (.ok (held ++ [0#8, 0#8, 0xFF#8])))
        ∧ (fits → met → exec (.set tag (id 56) value) s = reply (id 56) (closePack n .target written)
            (.ok (held ++ field 2 p.number ++ [if s.tlu.tickets.length < 8 then 0#8 else 1#8]))))
      ∧ row (id 64) quiet (v ≤ 1023 ∧ v + c.footWidth.get n ≤ 1024) { c with footFirst := c.footFirst.set n v }
      ∧ row (id 68) quiet (1 ≤ v ∧ v ≤ 32 ∧ c.footFirst.get n + v ≤ 1024) { c with footWidth := c.footWidth.set n v }
      ∧ row (id 72) quiet (200 ≤ v ∧ v ≤ 15000
          ∧ ∀ l, c.laneHead.get l = some n → v + 100 ≤ c.dropDistance.get l)
        { c with headDistance := c.headDistance.set n v })

/-- GET answers NOT_FOUND for an id that names no setting, and else OK with the id and the value held, in every
measuring state; it changes nothing (R189). A setting written reads back as written, but for the value under a target
of mode NONE, which is held as 0; and the write of one setting leaves the value of every other as it was (R187, R189,
R204). -/
def Obligations.SettingsReadBackAsWritten : Prop :=
  (∀ (tag id : Byte) (s : State), s.listening →
      (settingOf id = none → exec (.get tag id) s = .next (s.answers tag (.get id) (.refuse .notFound)))
      ∧ ∀ x, settingOf id = some x → exec (.get tag id) s =
        .next (s.answers tag (.get id) (.ok (id :: bytes32 (BitVec.ofNat 32 (x.value s.settings))))))
  ∧ (∀ (x : Setting) (v : Nat) (c c' : Settings), x.written v c = some c' →
      ((∀ l, x ≠ .target l) → x.value c' = v)
      ∧ (∀ l, x = .target l → x.value c' = if v / 2 ^ 24 = 2 then 2 * 2 ^ 24 else v)
      ∧ ∀ y, y ≠ x → y.value c' = y.value c)

/-- The bytes of the links. A number that fits its field is sent most significant byte first (a number too large for
its field is sent as that many bytes, each a free value: log entry 2); the CRC register starts at FFFFh and takes each
byte most significant bit first under x¹⁶ + x¹² + x⁵ + 1, and that of 31h to 39h is 29B1h; a head frame is 3Ch, kind,
tag, payload and CRC; a reply is a telegram of its request's kind with the top bit set, its request's tag, its status
and data (R181, R185, R203, R205, R209). The codes of R208, R204 and R205, each written out; the order state before a
miss is WAITING or ARMING (any other state is coded as ARMING: log entry 9). A lot set has bit n for slot n, a lane of
NONE is FFh, an absent pack number 0 (R204). A ticket has the 24 bytes of R207; a record its kind code, level, body
length and body, each of the 13 kinds laid out field by field (R194, R207). -/
def Obligations.FieldsAndRepliesOnTheLink : Prop :=
  (∀ n v, (field n v).length = n
    ∧ (v < 256 ^ n → ∀ i < n, (field n v).getD i 0 = BitVec.ofNat 8 (v / 256 ^ (n - 1 - i))))
  ∧ (∀ w, bytes16 w = field 2 w.toNat) ∧ (∀ w, bytes32 w = field 4 w.toNat)
  ∧ (crc16 [] = 0xFFFF#16
    ∧ (∀ (bytes : List Byte) (b : Byte),
        let bit (r : BitVec 16) : BitVec 16 := if r.getLsbD 15 then (r <<< 1) ^^^ 0x1021#16 else r <<< 1
        crc16 (bytes ++ [b]) = bit^[8] (crc16 bytes ^^^ (b ++ 0#8)))
    ∧ crc16 [0x31#8, 0x32#8, 0x33#8, 0x34#8, 0x35#8, 0x36#8, 0x37#8, 0x38#8, 0x39#8] = 0x29B1#16)
  ∧ (∀ (kind : Byte) (tag : Tag) (payload : List Byte),
      let body := [kind] ++ bytes16 tag ++ payload
      headFrame kind tag payload = [0x3C#8] ++ body ++ bytes16 (crc16 body))
  ∧ (∀ (kind tag : Byte) (a : Answer),
      let body := [BitVec.ofNat 8 (a.data.length + 3), kind ||| 0x80#8, tag, a.status.code] ++ a.data
      replyBytes kind tag a = 0xA5#8 :: (body ++ bytes16 (crc16 body)))
  ∧ (∀ (kind : Byte) (payload : List Byte), (parseRequest kind payload).kind = kind)
  ∧ ([.ok, .busy, .range, .full, .empty, .notFound, .unknown, .format].map Status.code = [0, 1, 2, 3, 4, 5, 6, 7]
    ∧ [.idle, .run, .pause, .calibrate, .fault].map Mode.code = [0, 1, 2, 3, 4]
    ∧ [.none, .stall, .scanLost].map FaultCause.code = [0, 1, 2]
    ∧ [.start, .calib, .pause, .resume, .stop, .clear, .calEnd, .stall, .scanLost].map ModeCause.code
      = [0, 1, 2, 3, 4, 5, 6, 7, 8]
    ∧ [.forward, .back].map Direction.code = [0, 1]
    ∧ [.quarterFoot, .tenthFoot, .decimetre].map SaleUnit.code = [0, 1, 2]
    ∧ [.count, .area, .none].map TargetMode.code = [0, 1, 2]
    ∧ [.divert, .scrap, .pack, .none].map Fate.code = [0, 1, 2, 3]
    ∧ [.none, .stamped, .fired, .missed, .failed].map StampOutcome.code = [0, 1, 2, 3, 4]
    ∧ [.idle, .arming, .armed, .printing, .fault].map ChannelState.code = [0, 1, 2, 3, 4]
    ∧ [.waiting, .arming].map OrderState.missCode = [0, 1]
    ∧ [.lateClose, .late, .headFault].map MissReason.code = [0, 1, 2]
    ∧ [.returned, .failed, .detached, .none].map HeadEffect.code = [0, 1, 2, 3]
    ∧ [.ok, .range, .flagged, .aborted].map CalCause.code = [0, 1, 2, 3]
    ∧ [.target, .host].map CloseCause.code = [0, 1]
    ∧ [.free, .opened, .closing].map LotState.code = [0, 1, 2]
    ∧ [.pack, .lot].map TicketKind.code = [0, 1]
    ∧ [false, true].map boolCode = [0, 1]
    ∧ HeadCause.timeoutArm.word = 0x0100#16 ∧ HeadCause.timeoutPrint.word = 0x0101#16
    ∧ ∀ code, bytes16 (HeadCause.code code).word = [0#8, code])
  ∧ (∀ (q : Quad Bool) (n : Nat), (lotSetByte q).getLsbD n = if h : n < 4 then q.get ⟨n, h⟩ else false)
  ∧ (∀ t : Ticket, ticketBytes t = [t.kind.code, BitVec.ofNat 8 t.place.val] ++ field 4 t.number ++ field 2 t.hides
      ++ field 4 t.units ++ field 6 t.area ++ field 2 t.scrap ++ field 2 t.diverts
      ++ [t.cause.code, if t.overrun then 1#8 else 0#8])
  ∧ (∀ r : HideReport,
      let lane : Byte := match r.lane with
        | none => 0xFF#8
        | some l => BitVec.ofNat 8 l.val
      let pack : Nat := match r.pack with
        | none => 0
        | some number => number
      recordBytes (.hide r) = [0x01#8, if r.flags &&& 0x0080#16 = 0#16 then 3#8 else 1#8, 30#8]
        ++ bytes16 r.tag ++ [lane] ++ field 5 r.area ++ field 2 r.figure ++ [r.unit.code] ++ field 5 r.fill
        ++ field 4 r.length ++ field 2 r.width ++ field 1 r.pieces ++ bytes16 r.flags ++ [r.fate.code]
        ++ field 2 pack ++ [lotSetByte r.lots, r.outcome.code])
  ∧ (∀ line bad, recordBytes (.lineHeld line bad) = [0x02#8, 2#8, 5#8] ++ bytes32 line ++ field 1 bad)
  ∧ (∀ old new cause hwm next closed, recordBytes (.mode old new cause hwm next closed) =
      [0x03#8, 4#8, 12#8, old.code, new.code, cause.code] ++ bytes32 hwm ++ bytes32 next ++ field 1 closed)
  ∧ (∀ cell line counter masked size, recordBytes (.cellStuck cell line counter masked size) =
      [0x04#8, 5#8, 10#8] ++ field 2 cell ++ bytes32 line ++ field 2 counter
        ++ [if masked then 0#8 else 1#8] ++ field 1 size)
  ∧ (∀ line notOpened kept, recordBytes (.tableFull line notOpened kept) =
      [0x05#8, 5#8, 6#8] ++ bytes32 line ++ field 1 notOpened ++ field 1 kept)
  ∧ (∀ tag lane hwm first, recordBytes (.transitFull tag lane hwm first) =
      [0x06#8, 5#8, 11#8] ++ bytes16 tag ++ [BitVec.ofNat 8 lane.val] ++ bytes32 hwm ++ bytes32 first)
  ∧ (∀ tag lane head reason before fire hwm, recordBytes (.stampMiss tag lane head reason before fire hwm) =
      [0x07#8, 5#8, 14#8] ++ bytes16 tag ++ [BitVec.ofNat 8 lane.val, BitVec.ofNat 8 head.val, reason.code,
        before.missCode] ++ bytes32 fire ++ bytes32 hwm)
  ∧ (∀ head cause tag before effect, recordBytes (.headFault head cause tag before effect) =
      [0x08#8, 6#8, 7#8, BitVec.ofNat 8 head.val] ++ bytes16 cause.word ++ bytes16 tag ++ [before.code, effect.code])
  ∧ (∀ t, recordBytes (.ticket t) = [0x09#8, 6#8, 24#8] ++ ticketBytes t)
  ∧ (∀ lane number hides units cause waiters, recordBytes (.packWait lane number hides units cause waiters) =
      [0x0A#8, 6#8, 11#8, BitVec.ofNat 8 lane.val] ++ field 2 number ++ field 2 hides ++ field 4 units
        ++ [cause.code] ++ field 1 waiters)
  ∧ (∀ cause tag aRef aRaw flags oldGain newGain,
      recordBytes (.calResult cause tag aRef aRaw flags oldGain newGain) =
        [0x0B#8, 6#8, 21#8, cause.code] ++ bytes16 tag ++ field 4 aRef ++ field 4 aRaw ++ bytes16 flags
          ++ field 4 oldGain ++ field 4 newGain)
  ∧ (∀ line bad, recordBytes (.scanLost line bad) = [0x0C#8, 7#8, 5#8] ++ bytes32 line ++ field 1 bad)
  ∧ (∀ mode position hwm time, recordBytes (.stall mode position hwm time) =
      [0x0D#8, 7#8, 11#8, mode.code] ++ bytes32 position ++ bytes32 hwm ++ field 2 time)

/-! ### Reports (chapter 12) -/

/-- Admission of a record in the order of R195: discarded when its level is not above the notice threshold; lost,
with the drop count raised to at most 65535, when its level is 1 to 5 and 28 records wait or 6 or 7 and 32 wait; else
admitted at the end, and ATTN evaluated (R195, R196, R200). -/
def Obligations.RecordAdmission : Prop :=
  ∀ (r : Record) (s : State),
    let lost := (r.level ≤ 5 ∧ 28 ≤ s.rpq.queue.length) ∨ (6 ≤ r.level ∧ 32 ≤ s.rpq.queue.length)
    (1 ≤ r.level ∧ r.level ≤ 7)
    ∧ (r.level ≤ s.settings.notice → submit r s = s)
    ∧ (s.settings.notice < r.level → lost →
        submit r s = { s with rpq := { s.rpq with dropCount := min (s.rpq.dropCount + 1) 65535 } })
    ∧ (s.settings.notice < r.level → ¬lost →
        submit r s = { s with rpq := { s.rpq with
          queue := s.rpq.queue ++ [r]
          attn := decide (s.settings.attnThreshold < s.rpq.queue.length + 1) } })

/-- FETCH of a number outside 1 to 7 is RANGE and changes nothing; else the reply carries the depth, the drop count
and the oldest records, at most that many, which leave the queue; the drop count becomes 0 and ATTN is evaluated
(R199, R200). REARM of TABLE_FULL (05h) or TRANSIT_FULL (06h) answers OK with the occurrence count as it stood, arms
the mark and sets its count to 0; of any other kind it answers RANGE and changes nothing (R198, R207). -/
def Obligations.FetchAndRearm : Prop :=
  (∀ (tag n : Byte) (s : State), s.listening →
      (¬(1 ≤ n.toNat ∧ n.toNat ≤ 7) → exec (.fetch tag n) s = .next (s.answers tag (.fetch n) (.refuse .range)))
      ∧ (1 ≤ n.toNat → n.toNat ≤ 7 →
        let taken := s.rpq.queue.take n.toNat
        let kept := s.rpq.queue.drop n.toNat
        exec (.fetch tag n) s = .next ({ s with rpq := { s.rpq with
          queue := kept
          dropCount := 0
          attn := decide (s.settings.attnThreshold < kept.length) } }.answers tag (.fetch n)
            (.ok (field 1 s.rpq.queue.length ++ field 2 s.rpq.dropCount ++ field 1 taken.length
              ++ taken.flatMap recordBytes)))))
  ∧ (∀ (tag kind : Byte) (s : State), s.listening →
      (kind = 5#8 → exec (.rearm tag kind) s = .next ({ s with rpq := { s.rpq with tableFull := ⟨true, 0⟩ } }.answers tag
          (.rearm kind) (.ok (field 2 s.rpq.tableFull.count))))
      ∧ (kind = 6#8 → exec (.rearm tag kind) s = .next ({ s with
          rpq := { s.rpq with transitFull := ⟨true, 0⟩ } }.answers tag (.rearm kind)
            (.ok (field 2 s.rpq.transitFull.count))))
      ∧ (kind ≠ 5#8 → kind ≠ 6#8 → exec (.rearm tag kind) s = .next (s.answers tag (.rearm kind) (.refuse .range))))

/-! ### Resets -/

/-- RESET is the soft reset: IDLE with no fault cause, the grid absent, the stall timer stopped, the scan, the table,
the orders, the transit list, lots, tickets, queue and counters cleared, every pack renewed, and the position, HWM,
direction, settings, widths, mask list and next-tag counter kept; it submits nothing (R9, R16, R33, R59, R87, R123,
R141, R167, R179, R192, R202). -/
def Obligations.ResetIsTheSoftReset : Prop :=
  ∀ (tag : Byte) (s : State), s.listening →
    let channel : Channel := ⟨.idle, none, false, false, false, [], []⟩
    let lot : Lot := ⟨.free, 0, 0, 0, 0, 0, 0, false⟩
    let four {α : Type} (v : α) : Quad α := ⟨v, v, v, v⟩
    let renewed (p : Pack) : Pack := ⟨if p.number < 65535 then p.number + 1 else 1, 0, 0, 0, 0, .opened, none⟩
    exec (.reset tag) s = .next ({ s with
      tcu := { s.tcu with grid := none, stallTimer := none }
      slr := ⟨false, none, 0#1024, 0, [], []⟩
      lcn := { s.lcn with counters := List.replicate 1024 0, marked := [] }
      htk := ⟨[], [], s.htk.nextTag, 0, false⟩
      cal := .none
      stc := four channel
      tru := ⟨[], four false, four false, four 0⟩
      tlu := ⟨⟨renewed s.tlu.packs.e0, renewed s.tlu.packs.e1, renewed s.tlu.packs.e2, renewed s.tlu.packs.e3⟩,
        four lot, [], [], four false, four false, four false⟩
      mdc := ⟨.idle, .none⟩
      rpq := ⟨[], 0, ⟨true, 0⟩, ⟨true, 0⟩, false⟩
      cml := { s.cml with linkErrors := 0 } }.answers tag .reset (.ok []))

/-- A full reset takes every block and every setting to its reset value, here written out, and samples the strap, high
for 460,800 baud (R9, R10, R16, R33, R59, R87, R108, R141, R167, R179, R190, R193, R202 and the tables of reset values
of the chapters). After the assertion of the reset input those values hold, whatever else arrives, until its release:
only the levels of the encoder and belt-run inputs are followed. That these levels outlive the reset is the model's
choice (log entries 3 and 16; sections 0.7, 0.8; R180, R203). -/
def Obligations.FullResetAndTheResetInput : Prop :=
  ∀ (cause : ResetCause) (strap : Bool) (s : State),
    let four {α : Type} (v : α) : Quad α := ⟨v, v, v, v⟩
    exec (.fullReset cause strap) s = .next
      { pins := { s.pins with resetAsserted := decide (cause = .resetInput) }
        settings :=
          { encoderStep := 250, lineInterval := 20, stallTime := 2000, badLimit := 3, bridge := 1, minRun := 2
            stuckLimit := 6000, autoMask := true, fill := 6, closeGap := 4, maxLines := 4000, leadIn := 50, face := 30
            slip := 20, gain := 100000, saleUnit := .quarterFoot, rounding := .nearest, minArea := 50000, notice := 2
            attnThreshold := 0
            window := ⟨⟨true, 0, 1023⟩, ⟨false, 0, 1023⟩, ⟨false, 0, 1023⟩, ⟨false, 0, 1023⟩⟩
            laneHead := ⟨some 0, some 1, some 2, some 3⟩, stamping := four true, dropDistance := four 6000
            gatePresent := four false, divertMask := four 0x043F#16, target := four ⟨.count, 50⟩
            footFirst := four 508, footWidth := four 8, headDistance := four 3000 }
        tcu := ⟨0#32, 0#32, .forward, none, none⟩
        slr := ⟨false, none, 0#1024, 0, [], []⟩
        lcn := ⟨List.replicate 1024 3125, [], List.replicate 1024 0, []⟩
        htk := ⟨[], [], 1#16, 0#32, false⟩
        cal := .none
        stc := four ⟨.idle, none, false, false, false, [], []⟩
        tru := ⟨[], four false, four false, four 0⟩
        tlu := ⟨four ⟨1, 0, 0, 0, 0, .opened, none⟩, four ⟨.free, 0, 0, 0, 0, 0, 0, false⟩, [], [], four false,
          four false, four false⟩
        mdc := ⟨.idle, .none⟩
        rpq := ⟨[], 0, ⟨true, 0⟩, ⟨true, 0⟩, false⟩
        cml := ⟨.hunting, [], none, 0, if strap then .baud460800 else .baud115200⟩
        openChoices := s.openChoices
        pending := s.pending }
    ∧ exec .resetInputRelease s = .next { s with pins := { s.pins with resetAsserted := false } }
    ∧ (s.pins.resetAsserted = true →
      (∀ a b, exec (.encoderStep a b) s = .next { s with pins := { s.pins with encoderA := a, encoderB := b } })
      ∧ exec .beltRunAssert s = .next { s with pins := { s.pins with beltRun := true } }
      ∧ exec .beltRunDeassert s = .next { s with pins := { s.pins with beltRun := false } }
      ∧ ∀ c, (∀ a b, c ≠ .encoderStep a b) → c ≠ .beltRunAssert → c ≠ .beltRunDeassert →
        c ≠ .resetInputRelease → (∀ k l, c ≠ .fullReset k l) → exec c s = .next s)

/-! ### Invariants -/

/-- The reset state meets every invariant stated below. -/
def Obligations.ResetStateIsSound : Prop := State.reset.sound

/-- Every step keeps every setting in its range and every check of one setting against others (section 11.4, R5,
R188). -/
def Obligations.StepKeepsSettingsValid : Prop :=
  ∀ s t : State, s.settings.valid → step s = .next t → t.settings.valid

/-- Every step keeps the marks of the blocks in agreement with the measuring state (sections 1.4, 3.3, 5.1, 10.1). -/
def Obligations.StepKeepsMarksInAgreement : Prop :=
  ∀ s t : State, s.marksAgree → step s = .next t → t.marksAgree

/-- Every step keeps the belt within 2³¹ − 1 counts below its HWM, and no step but a full reset moves the HWM except
forward by at most one count (R2). -/
def Obligations.StepKeepsTheDepth : Prop :=
  ∀ s t : State, s.depthBounded → step s = .next t →
    t.depthBounded ∧ (t.tcu.hwm = s.tcu.hwm ∨ t.tcu.hwm = s.tcu.hwm + 1
      ∨ ∃ cause strap rest, s.pending = .fullReset cause strap :: rest)

/-- Every step keeps every collection, the waiter list and every open hide's last runs among them, within its
capacity and every stopping counter at most at its stop, from a state in which the accounts of the tally agree (by
which nobody waits twice; StepKeepsTheTallyInAgreement). -/
def Obligations.StepKeepsCapacities : Prop :=
  ∀ s t : State, s.tallyAgrees → s.withinCapacity → step s = .next t → t.withinCapacity

/-- Every step keeps the tags of the open hide table and the transit list distinct and never 0 (R36). -/
def Obligations.StepKeepsTagsDistinct : Prop :=
  ∀ s t : State, s.withinCapacity → s.tagsDistinct → step s = .next t → t.tagsDistinct

/-- Every step keeps the head channels and the stamp orders paired as the table of R108 gives. -/
def Obligations.StepKeepsChannelsPaired : Prop :=
  ∀ s t : State, s.withinCapacity → s.tagsDistinct → s.channelsPaired → step s = .next t → t.channelsPaired

/-- Every step keeps the accounts of the tally in agreement: in-flight counts with the transit list, waiters with the
packs in WAIT and the marked lots, and waiters only beside a full store (R151, R154, R159, R163). -/
def Obligations.StepKeepsTheTallyInAgreement : Prop :=
  ∀ s t : State, s.tallyAgrees → step s = .next t → t.tallyAgrees

end
end

