-- ==== Sys2Proof/Laws/State.lean ====
section
/-! SUPPORT. What the named updates of State leave alone: one lemma per update and field, true by unfolding, so
that no later proof unfolds an update to see a field it does not write. -/

namespace Sys2Proof.Machine

@[simp] theorem submit_pins (r : Record) (s : State) : (submit r s).pins = s.pins := rfl
@[simp] theorem submit_settings (r : Record) (s : State) : (submit r s).settings = s.settings := rfl
@[simp] theorem submit_tcu (r : Record) (s : State) : (submit r s).tcu = s.tcu := rfl
@[simp] theorem submit_slr (r : Record) (s : State) : (submit r s).slr = s.slr := rfl
@[simp] theorem submit_lcn (r : Record) (s : State) : (submit r s).lcn = s.lcn := rfl
@[simp] theorem submit_htk (r : Record) (s : State) : (submit r s).htk = s.htk := rfl
@[simp] theorem submit_cal (r : Record) (s : State) : (submit r s).cal = s.cal := rfl
@[simp] theorem submit_stc (r : Record) (s : State) : (submit r s).stc = s.stc := rfl
@[simp] theorem submit_tru (r : Record) (s : State) : (submit r s).tru = s.tru := rfl
@[simp] theorem submit_tlu (r : Record) (s : State) : (submit r s).tlu = s.tlu := rfl
@[simp] theorem submit_mdc (r : Record) (s : State) : (submit r s).mdc = s.mdc := rfl
@[simp] theorem submit_cml (r : Record) (s : State) : (submit r s).cml = s.cml := rfl
@[simp] theorem submit_openChoices (r : Record) (s : State) : (submit r s).openChoices = s.openChoices := rfl
@[simp] theorem submit_pending (r : Record) (s : State) : (submit r s).pending = s.pending := rfl

@[simp] theorem sendScan_pins (frame : List Byte) (s : State) : (sendScan frame s).pins = s.pins := rfl
@[simp] theorem sendScan_settings (frame : List Byte) (s : State) : (sendScan frame s).settings = s.settings := rfl
@[simp] theorem sendScan_tcu (frame : List Byte) (s : State) : (sendScan frame s).tcu = s.tcu := rfl
@[simp] theorem sendScan_lcn (frame : List Byte) (s : State) : (sendScan frame s).lcn = s.lcn := rfl
@[simp] theorem sendScan_htk (frame : List Byte) (s : State) : (sendScan frame s).htk = s.htk := rfl
@[simp] theorem sendScan_cal (frame : List Byte) (s : State) : (sendScan frame s).cal = s.cal := rfl
@[simp] theorem sendScan_stc (frame : List Byte) (s : State) : (sendScan frame s).stc = s.stc := rfl
@[simp] theorem sendScan_tru (frame : List Byte) (s : State) : (sendScan frame s).tru = s.tru := rfl
@[simp] theorem sendScan_tlu (frame : List Byte) (s : State) : (sendScan frame s).tlu = s.tlu := rfl
@[simp] theorem sendScan_mdc (frame : List Byte) (s : State) : (sendScan frame s).mdc = s.mdc := rfl
@[simp] theorem sendScan_rpq (frame : List Byte) (s : State) : (sendScan frame s).rpq = s.rpq := rfl
@[simp] theorem sendScan_cml (frame : List Byte) (s : State) : (sendScan frame s).cml = s.cml := rfl
@[simp] theorem sendScan_openChoices (frame : List Byte) (s : State) : (sendScan frame s).openChoices = s.openChoices := rfl
@[simp] theorem sendScan_pending (frame : List Byte) (s : State) : (sendScan frame s).pending = s.pending := rfl

@[simp] theorem setChannel_pins (h : Fin 4) (c : Channel) (s : State) : (setChannel h c s).pins = s.pins := rfl
@[simp] theorem setChannel_settings (h : Fin 4) (c : Channel) (s : State) : (setChannel h c s).settings = s.settings := rfl
@[simp] theorem setChannel_tcu (h : Fin 4) (c : Channel) (s : State) : (setChannel h c s).tcu = s.tcu := rfl
@[simp] theorem setChannel_slr (h : Fin 4) (c : Channel) (s : State) : (setChannel h c s).slr = s.slr := rfl
@[simp] theorem setChannel_lcn (h : Fin 4) (c : Channel) (s : State) : (setChannel h c s).lcn = s.lcn := rfl
@[simp] theorem setChannel_htk (h : Fin 4) (c : Channel) (s : State) : (setChannel h c s).htk = s.htk := rfl
@[simp] theorem setChannel_cal (h : Fin 4) (c : Channel) (s : State) : (setChannel h c s).cal = s.cal := rfl
@[simp] theorem setChannel_tru (h : Fin 4) (c : Channel) (s : State) : (setChannel h c s).tru = s.tru := rfl
@[simp] theorem setChannel_tlu (h : Fin 4) (c : Channel) (s : State) : (setChannel h c s).tlu = s.tlu := rfl
@[simp] theorem setChannel_mdc (h : Fin 4) (c : Channel) (s : State) : (setChannel h c s).mdc = s.mdc := rfl
@[simp] theorem setChannel_rpq (h : Fin 4) (c : Channel) (s : State) : (setChannel h c s).rpq = s.rpq := rfl
@[simp] theorem setChannel_cml (h : Fin 4) (c : Channel) (s : State) : (setChannel h c s).cml = s.cml := rfl
@[simp] theorem setChannel_openChoices (h : Fin 4) (c : Channel) (s : State) : (setChannel h c s).openChoices = s.openChoices := rfl
@[simp] theorem setChannel_pending (h : Fin 4) (c : Channel) (s : State) : (setChannel h c s).pending = s.pending := rfl

@[simp] theorem setGathered_pins (h : Fin 4) (bytes : List Byte) (s : State) : (setGathered h bytes s).pins = s.pins := rfl
@[simp] theorem setGathered_settings (h : Fin 4) (bytes : List Byte) (s : State) : (setGathered h bytes s).settings = s.settings := rfl
@[simp] theorem setGathered_tcu (h : Fin 4) (bytes : List Byte) (s : State) : (setGathered h bytes s).tcu = s.tcu := rfl
@[simp] theorem setGathered_slr (h : Fin 4) (bytes : List Byte) (s : State) : (setGathered h bytes s).slr = s.slr := rfl
@[simp] theorem setGathered_lcn (h : Fin 4) (bytes : List Byte) (s : State) : (setGathered h bytes s).lcn = s.lcn := rfl
@[simp] theorem setGathered_htk (h : Fin 4) (bytes : List Byte) (s : State) : (setGathered h bytes s).htk = s.htk := rfl
@[simp] theorem setGathered_cal (h : Fin 4) (bytes : List Byte) (s : State) : (setGathered h bytes s).cal = s.cal := rfl
@[simp] theorem setGathered_tru (h : Fin 4) (bytes : List Byte) (s : State) : (setGathered h bytes s).tru = s.tru := rfl
@[simp] theorem setGathered_tlu (h : Fin 4) (bytes : List Byte) (s : State) : (setGathered h bytes s).tlu = s.tlu := rfl
@[simp] theorem setGathered_mdc (h : Fin 4) (bytes : List Byte) (s : State) : (setGathered h bytes s).mdc = s.mdc := rfl
@[simp] theorem setGathered_rpq (h : Fin 4) (bytes : List Byte) (s : State) : (setGathered h bytes s).rpq = s.rpq := rfl
@[simp] theorem setGathered_cml (h : Fin 4) (bytes : List Byte) (s : State) : (setGathered h bytes s).cml = s.cml := rfl
@[simp] theorem setGathered_openChoices (h : Fin 4) (bytes : List Byte) (s : State) : (setGathered h bytes s).openChoices = s.openChoices := rfl
@[simp] theorem setGathered_pending (h : Fin 4) (bytes : List Byte) (s : State) : (setGathered h bytes s).pending = s.pending := rfl

@[simp] theorem putOrder_pins (tag : Tag) (st : OrderState) (flags : FlagSet) (s : State) : (putOrder tag st flags s).pins = s.pins := rfl
@[simp] theorem putOrder_settings (tag : Tag) (st : OrderState) (flags : FlagSet) (s : State) : (putOrder tag st flags s).settings = s.settings := rfl
@[simp] theorem putOrder_tcu (tag : Tag) (st : OrderState) (flags : FlagSet) (s : State) : (putOrder tag st flags s).tcu = s.tcu := rfl
@[simp] theorem putOrder_slr (tag : Tag) (st : OrderState) (flags : FlagSet) (s : State) : (putOrder tag st flags s).slr = s.slr := rfl
@[simp] theorem putOrder_lcn (tag : Tag) (st : OrderState) (flags : FlagSet) (s : State) : (putOrder tag st flags s).lcn = s.lcn := rfl
@[simp] theorem putOrder_htk (tag : Tag) (st : OrderState) (flags : FlagSet) (s : State) : (putOrder tag st flags s).htk = s.htk := rfl
@[simp] theorem putOrder_cal (tag : Tag) (st : OrderState) (flags : FlagSet) (s : State) : (putOrder tag st flags s).cal = s.cal := rfl
@[simp] theorem putOrder_stc (tag : Tag) (st : OrderState) (flags : FlagSet) (s : State) : (putOrder tag st flags s).stc = s.stc := rfl
@[simp] theorem putOrder_tlu (tag : Tag) (st : OrderState) (flags : FlagSet) (s : State) : (putOrder tag st flags s).tlu = s.tlu := rfl
@[simp] theorem putOrder_mdc (tag : Tag) (st : OrderState) (flags : FlagSet) (s : State) : (putOrder tag st flags s).mdc = s.mdc := rfl
@[simp] theorem putOrder_rpq (tag : Tag) (st : OrderState) (flags : FlagSet) (s : State) : (putOrder tag st flags s).rpq = s.rpq := rfl
@[simp] theorem putOrder_cml (tag : Tag) (st : OrderState) (flags : FlagSet) (s : State) : (putOrder tag st flags s).cml = s.cml := rfl
@[simp] theorem putOrder_openChoices (tag : Tag) (st : OrderState) (flags : FlagSet) (s : State) : (putOrder tag st flags s).openChoices = s.openChoices := rfl
@[simp] theorem putOrder_pending (tag : Tag) (st : OrderState) (flags : FlagSet) (s : State) : (putOrder tag st flags s).pending = s.pending := rfl

@[simp] theorem armOrder_pins (h : Fin 4) (tag : Tag) (o : Order) (s : State) : (armOrder h tag o s).pins = s.pins := rfl
@[simp] theorem armOrder_settings (h : Fin 4) (tag : Tag) (o : Order) (s : State) : (armOrder h tag o s).settings = s.settings := rfl
@[simp] theorem armOrder_tcu (h : Fin 4) (tag : Tag) (o : Order) (s : State) : (armOrder h tag o s).tcu = s.tcu := rfl
@[simp] theorem armOrder_slr (h : Fin 4) (tag : Tag) (o : Order) (s : State) : (armOrder h tag o s).slr = s.slr := rfl
@[simp] theorem armOrder_lcn (h : Fin 4) (tag : Tag) (o : Order) (s : State) : (armOrder h tag o s).lcn = s.lcn := rfl
@[simp] theorem armOrder_htk (h : Fin 4) (tag : Tag) (o : Order) (s : State) : (armOrder h tag o s).htk = s.htk := rfl
@[simp] theorem armOrder_cal (h : Fin 4) (tag : Tag) (o : Order) (s : State) : (armOrder h tag o s).cal = s.cal := rfl
@[simp] theorem armOrder_tlu (h : Fin 4) (tag : Tag) (o : Order) (s : State) : (armOrder h tag o s).tlu = s.tlu := rfl
@[simp] theorem armOrder_mdc (h : Fin 4) (tag : Tag) (o : Order) (s : State) : (armOrder h tag o s).mdc = s.mdc := rfl
@[simp] theorem armOrder_rpq (h : Fin 4) (tag : Tag) (o : Order) (s : State) : (armOrder h tag o s).rpq = s.rpq := rfl
@[simp] theorem armOrder_cml (h : Fin 4) (tag : Tag) (o : Order) (s : State) : (armOrder h tag o s).cml = s.cml := rfl
@[simp] theorem armOrder_openChoices (h : Fin 4) (tag : Tag) (o : Order) (s : State) : (armOrder h tag o s).openChoices = s.openChoices := rfl
@[simp] theorem armOrder_pending (h : Fin 4) (tag : Tag) (o : Order) (s : State) : (armOrder h tag o s).pending = s.pending := rfl

@[simp] theorem fireOrder_pins (h : Fin 4) (tag : Tag) (s : State) : (fireOrder h tag s).pins = s.pins := rfl
@[simp] theorem fireOrder_settings (h : Fin 4) (tag : Tag) (s : State) : (fireOrder h tag s).settings = s.settings := rfl
@[simp] theorem fireOrder_tcu (h : Fin 4) (tag : Tag) (s : State) : (fireOrder h tag s).tcu = s.tcu := rfl
@[simp] theorem fireOrder_slr (h : Fin 4) (tag : Tag) (s : State) : (fireOrder h tag s).slr = s.slr := rfl
@[simp] theorem fireOrder_lcn (h : Fin 4) (tag : Tag) (s : State) : (fireOrder h tag s).lcn = s.lcn := rfl
@[simp] theorem fireOrder_htk (h : Fin 4) (tag : Tag) (s : State) : (fireOrder h tag s).htk = s.htk := rfl
@[simp] theorem fireOrder_cal (h : Fin 4) (tag : Tag) (s : State) : (fireOrder h tag s).cal = s.cal := rfl
@[simp] theorem fireOrder_tlu (h : Fin 4) (tag : Tag) (s : State) : (fireOrder h tag s).tlu = s.tlu := rfl
@[simp] theorem fireOrder_mdc (h : Fin 4) (tag : Tag) (s : State) : (fireOrder h tag s).mdc = s.mdc := rfl
@[simp] theorem fireOrder_rpq (h : Fin 4) (tag : Tag) (s : State) : (fireOrder h tag s).rpq = s.rpq := rfl
@[simp] theorem fireOrder_cml (h : Fin 4) (tag : Tag) (s : State) : (fireOrder h tag s).cml = s.cml := rfl
@[simp] theorem fireOrder_openChoices (h : Fin 4) (tag : Tag) (s : State) : (fireOrder h tag s).openChoices = s.openChoices := rfl
@[simp] theorem fireOrder_pending (h : Fin 4) (tag : Tag) (s : State) : (fireOrder h tag s).pending = s.pending := rfl

@[simp] theorem setLot_pins (slot : Fin 4) (l : Lot) (s : State) : (setLot slot l s).pins = s.pins := rfl
@[simp] theorem setLot_settings (slot : Fin 4) (l : Lot) (s : State) : (setLot slot l s).settings = s.settings := rfl
@[simp] theorem setLot_tcu (slot : Fin 4) (l : Lot) (s : State) : (setLot slot l s).tcu = s.tcu := rfl
@[simp] theorem setLot_slr (slot : Fin 4) (l : Lot) (s : State) : (setLot slot l s).slr = s.slr := rfl
@[simp] theorem setLot_lcn (slot : Fin 4) (l : Lot) (s : State) : (setLot slot l s).lcn = s.lcn := rfl
@[simp] theorem setLot_htk (slot : Fin 4) (l : Lot) (s : State) : (setLot slot l s).htk = s.htk := rfl
@[simp] theorem setLot_cal (slot : Fin 4) (l : Lot) (s : State) : (setLot slot l s).cal = s.cal := rfl
@[simp] theorem setLot_stc (slot : Fin 4) (l : Lot) (s : State) : (setLot slot l s).stc = s.stc := rfl
@[simp] theorem setLot_tru (slot : Fin 4) (l : Lot) (s : State) : (setLot slot l s).tru = s.tru := rfl
@[simp] theorem setLot_mdc (slot : Fin 4) (l : Lot) (s : State) : (setLot slot l s).mdc = s.mdc := rfl
@[simp] theorem setLot_rpq (slot : Fin 4) (l : Lot) (s : State) : (setLot slot l s).rpq = s.rpq := rfl
@[simp] theorem setLot_cml (slot : Fin 4) (l : Lot) (s : State) : (setLot slot l s).cml = s.cml := rfl
@[simp] theorem setLot_openChoices (slot : Fin 4) (l : Lot) (s : State) : (setLot slot l s).openChoices = s.openChoices := rfl
@[simp] theorem setLot_pending (slot : Fin 4) (l : Lot) (s : State) : (setLot slot l s).pending = s.pending := rfl

@[simp] theorem scrapCount_pins (lane : Fin 4) (s : State) : (scrapCount lane s).pins = s.pins := rfl
@[simp] theorem scrapCount_settings (lane : Fin 4) (s : State) : (scrapCount lane s).settings = s.settings := rfl
@[simp] theorem scrapCount_tcu (lane : Fin 4) (s : State) : (scrapCount lane s).tcu = s.tcu := rfl
@[simp] theorem scrapCount_slr (lane : Fin 4) (s : State) : (scrapCount lane s).slr = s.slr := rfl
@[simp] theorem scrapCount_lcn (lane : Fin 4) (s : State) : (scrapCount lane s).lcn = s.lcn := rfl
@[simp] theorem scrapCount_htk (lane : Fin 4) (s : State) : (scrapCount lane s).htk = s.htk := rfl
@[simp] theorem scrapCount_cal (lane : Fin 4) (s : State) : (scrapCount lane s).cal = s.cal := rfl
@[simp] theorem scrapCount_stc (lane : Fin 4) (s : State) : (scrapCount lane s).stc = s.stc := rfl
@[simp] theorem scrapCount_tru (lane : Fin 4) (s : State) : (scrapCount lane s).tru = s.tru := rfl
@[simp] theorem scrapCount_mdc (lane : Fin 4) (s : State) : (scrapCount lane s).mdc = s.mdc := rfl
@[simp] theorem scrapCount_rpq (lane : Fin 4) (s : State) : (scrapCount lane s).rpq = s.rpq := rfl
@[simp] theorem scrapCount_cml (lane : Fin 4) (s : State) : (scrapCount lane s).cml = s.cml := rfl
@[simp] theorem scrapCount_openChoices (lane : Fin 4) (s : State) : (scrapCount lane s).openChoices = s.openChoices := rfl
@[simp] theorem scrapCount_pending (lane : Fin 4) (s : State) : (scrapCount lane s).pending = s.pending := rfl

@[simp] theorem raiseInFlight_pins (lots : Quad Bool) (s : State) : (raiseInFlight lots s).pins = s.pins := rfl
@[simp] theorem raiseInFlight_settings (lots : Quad Bool) (s : State) : (raiseInFlight lots s).settings = s.settings := rfl
@[simp] theorem raiseInFlight_tcu (lots : Quad Bool) (s : State) : (raiseInFlight lots s).tcu = s.tcu := rfl
@[simp] theorem raiseInFlight_slr (lots : Quad Bool) (s : State) : (raiseInFlight lots s).slr = s.slr := rfl
@[simp] theorem raiseInFlight_lcn (lots : Quad Bool) (s : State) : (raiseInFlight lots s).lcn = s.lcn := rfl
@[simp] theorem raiseInFlight_htk (lots : Quad Bool) (s : State) : (raiseInFlight lots s).htk = s.htk := rfl
@[simp] theorem raiseInFlight_cal (lots : Quad Bool) (s : State) : (raiseInFlight lots s).cal = s.cal := rfl
@[simp] theorem raiseInFlight_stc (lots : Quad Bool) (s : State) : (raiseInFlight lots s).stc = s.stc := rfl
@[simp] theorem raiseInFlight_tru (lots : Quad Bool) (s : State) : (raiseInFlight lots s).tru = s.tru := rfl
@[simp] theorem raiseInFlight_mdc (lots : Quad Bool) (s : State) : (raiseInFlight lots s).mdc = s.mdc := rfl
@[simp] theorem raiseInFlight_rpq (lots : Quad Bool) (s : State) : (raiseInFlight lots s).rpq = s.rpq := rfl
@[simp] theorem raiseInFlight_cml (lots : Quad Bool) (s : State) : (raiseInFlight lots s).cml = s.cml := rfl
@[simp] theorem raiseInFlight_openChoices (lots : Quad Bool) (s : State) : (raiseInFlight lots s).openChoices = s.openChoices := rfl
@[simp] theorem raiseInFlight_pending (lots : Quad Bool) (s : State) : (raiseInFlight lots s).pending = s.pending := rfl

@[simp] theorem tallyLots_pins (lots : Quad Bool) (figure area : Nat) (s : State) : (tallyLots lots figure area s).pins = s.pins := rfl
@[simp] theorem tallyLots_settings (lots : Quad Bool) (figure area : Nat) (s : State) : (tallyLots lots figure area s).settings = s.settings := rfl
@[simp] theorem tallyLots_tcu (lots : Quad Bool) (figure area : Nat) (s : State) : (tallyLots lots figure area s).tcu = s.tcu := rfl
@[simp] theorem tallyLots_slr (lots : Quad Bool) (figure area : Nat) (s : State) : (tallyLots lots figure area s).slr = s.slr := rfl
@[simp] theorem tallyLots_lcn (lots : Quad Bool) (figure area : Nat) (s : State) : (tallyLots lots figure area s).lcn = s.lcn := rfl
@[simp] theorem tallyLots_htk (lots : Quad Bool) (figure area : Nat) (s : State) : (tallyLots lots figure area s).htk = s.htk := rfl
@[simp] theorem tallyLots_cal (lots : Quad Bool) (figure area : Nat) (s : State) : (tallyLots lots figure area s).cal = s.cal := rfl
@[simp] theorem tallyLots_stc (lots : Quad Bool) (figure area : Nat) (s : State) : (tallyLots lots figure area s).stc = s.stc := rfl
@[simp] theorem tallyLots_tru (lots : Quad Bool) (figure area : Nat) (s : State) : (tallyLots lots figure area s).tru = s.tru := rfl
@[simp] theorem tallyLots_mdc (lots : Quad Bool) (figure area : Nat) (s : State) : (tallyLots lots figure area s).mdc = s.mdc := rfl
@[simp] theorem tallyLots_rpq (lots : Quad Bool) (figure area : Nat) (s : State) : (tallyLots lots figure area s).rpq = s.rpq := rfl
@[simp] theorem tallyLots_cml (lots : Quad Bool) (figure area : Nat) (s : State) : (tallyLots lots figure area s).cml = s.cml := rfl
@[simp] theorem tallyLots_openChoices (lots : Quad Bool) (figure area : Nat) (s : State) : (tallyLots lots figure area s).openChoices = s.openChoices := rfl
@[simp] theorem tallyLots_pending (lots : Quad Bool) (figure area : Nat) (s : State) : (tallyLots lots figure area s).pending = s.pending := rfl

@[simp] theorem storePackTicket_pins (lane : Fin 4) (cause : CloseCause) (overrun : Bool) (s : State) : (storePackTicket lane cause overrun s).pins = s.pins := rfl
@[simp] theorem storePackTicket_settings (lane : Fin 4) (cause : CloseCause) (overrun : Bool) (s : State) : (storePackTicket lane cause overrun s).settings = s.settings := rfl
@[simp] theorem storePackTicket_tcu (lane : Fin 4) (cause : CloseCause) (overrun : Bool) (s : State) : (storePackTicket lane cause overrun s).tcu = s.tcu := rfl
@[simp] theorem storePackTicket_slr (lane : Fin 4) (cause : CloseCause) (overrun : Bool) (s : State) : (storePackTicket lane cause overrun s).slr = s.slr := rfl
@[simp] theorem storePackTicket_lcn (lane : Fin 4) (cause : CloseCause) (overrun : Bool) (s : State) : (storePackTicket lane cause overrun s).lcn = s.lcn := rfl
@[simp] theorem storePackTicket_htk (lane : Fin 4) (cause : CloseCause) (overrun : Bool) (s : State) : (storePackTicket lane cause overrun s).htk = s.htk := rfl
@[simp] theorem storePackTicket_cal (lane : Fin 4) (cause : CloseCause) (overrun : Bool) (s : State) : (storePackTicket lane cause overrun s).cal = s.cal := rfl
@[simp] theorem storePackTicket_stc (lane : Fin 4) (cause : CloseCause) (overrun : Bool) (s : State) : (storePackTicket lane cause overrun s).stc = s.stc := rfl
@[simp] theorem storePackTicket_mdc (lane : Fin 4) (cause : CloseCause) (overrun : Bool) (s : State) : (storePackTicket lane cause overrun s).mdc = s.mdc := rfl
@[simp] theorem storePackTicket_cml (lane : Fin 4) (cause : CloseCause) (overrun : Bool) (s : State) : (storePackTicket lane cause overrun s).cml = s.cml := rfl
@[simp] theorem storePackTicket_openChoices (lane : Fin 4) (cause : CloseCause) (overrun : Bool) (s : State) : (storePackTicket lane cause overrun s).openChoices = s.openChoices := rfl
@[simp] theorem storePackTicket_pending (lane : Fin 4) (cause : CloseCause) (overrun : Bool) (s : State) : (storePackTicket lane cause overrun s).pending = s.pending := rfl

@[simp] theorem packEntersWait_pins (lane : Fin 4) (cause : CloseCause) (s : State) : (packEntersWait lane cause s).pins = s.pins := rfl
@[simp] theorem packEntersWait_settings (lane : Fin 4) (cause : CloseCause) (s : State) : (packEntersWait lane cause s).settings = s.settings := rfl
@[simp] theorem packEntersWait_tcu (lane : Fin 4) (cause : CloseCause) (s : State) : (packEntersWait lane cause s).tcu = s.tcu := rfl
@[simp] theorem packEntersWait_slr (lane : Fin 4) (cause : CloseCause) (s : State) : (packEntersWait lane cause s).slr = s.slr := rfl
@[simp] theorem packEntersWait_lcn (lane : Fin 4) (cause : CloseCause) (s : State) : (packEntersWait lane cause s).lcn = s.lcn := rfl
@[simp] theorem packEntersWait_htk (lane : Fin 4) (cause : CloseCause) (s : State) : (packEntersWait lane cause s).htk = s.htk := rfl
@[simp] theorem packEntersWait_cal (lane : Fin 4) (cause : CloseCause) (s : State) : (packEntersWait lane cause s).cal = s.cal := rfl
@[simp] theorem packEntersWait_stc (lane : Fin 4) (cause : CloseCause) (s : State) : (packEntersWait lane cause s).stc = s.stc := rfl
@[simp] theorem packEntersWait_tru (lane : Fin 4) (cause : CloseCause) (s : State) : (packEntersWait lane cause s).tru = s.tru := rfl
@[simp] theorem packEntersWait_mdc (lane : Fin 4) (cause : CloseCause) (s : State) : (packEntersWait lane cause s).mdc = s.mdc := rfl
@[simp] theorem packEntersWait_cml (lane : Fin 4) (cause : CloseCause) (s : State) : (packEntersWait lane cause s).cml = s.cml := rfl
@[simp] theorem packEntersWait_openChoices (lane : Fin 4) (cause : CloseCause) (s : State) : (packEntersWait lane cause s).openChoices = s.openChoices := rfl
@[simp] theorem packEntersWait_pending (lane : Fin 4) (cause : CloseCause) (s : State) : (packEntersWait lane cause s).pending = s.pending := rfl

@[simp] theorem storeLotTicket_pins (slot : Fin 4) (overrun : Bool) (s : State) : (storeLotTicket slot overrun s).pins = s.pins := rfl
@[simp] theorem storeLotTicket_settings (slot : Fin 4) (overrun : Bool) (s : State) : (storeLotTicket slot overrun s).settings = s.settings := rfl
@[simp] theorem storeLotTicket_tcu (slot : Fin 4) (overrun : Bool) (s : State) : (storeLotTicket slot overrun s).tcu = s.tcu := rfl
@[simp] theorem storeLotTicket_slr (slot : Fin 4) (overrun : Bool) (s : State) : (storeLotTicket slot overrun s).slr = s.slr := rfl
@[simp] theorem storeLotTicket_lcn (slot : Fin 4) (overrun : Bool) (s : State) : (storeLotTicket slot overrun s).lcn = s.lcn := rfl
@[simp] theorem storeLotTicket_htk (slot : Fin 4) (overrun : Bool) (s : State) : (storeLotTicket slot overrun s).htk = s.htk := rfl
@[simp] theorem storeLotTicket_cal (slot : Fin 4) (overrun : Bool) (s : State) : (storeLotTicket slot overrun s).cal = s.cal := rfl
@[simp] theorem storeLotTicket_stc (slot : Fin 4) (overrun : Bool) (s : State) : (storeLotTicket slot overrun s).stc = s.stc := rfl
@[simp] theorem storeLotTicket_tru (slot : Fin 4) (overrun : Bool) (s : State) : (storeLotTicket slot overrun s).tru = s.tru := rfl
@[simp] theorem storeLotTicket_mdc (slot : Fin 4) (overrun : Bool) (s : State) : (storeLotTicket slot overrun s).mdc = s.mdc := rfl
@[simp] theorem storeLotTicket_cml (slot : Fin 4) (overrun : Bool) (s : State) : (storeLotTicket slot overrun s).cml = s.cml := rfl
@[simp] theorem storeLotTicket_openChoices (slot : Fin 4) (overrun : Bool) (s : State) : (storeLotTicket slot overrun s).openChoices = s.openChoices := rfl
@[simp] theorem storeLotTicket_pending (slot : Fin 4) (overrun : Bool) (s : State) : (storeLotTicket slot overrun s).pending = s.pending := rfl

@[simp] theorem pulseGate_pins (lane : Fin 4) (s : State) : (pulseGate lane s).pins = s.pins := rfl
@[simp] theorem pulseGate_settings (lane : Fin 4) (s : State) : (pulseGate lane s).settings = s.settings := rfl
@[simp] theorem pulseGate_tcu (lane : Fin 4) (s : State) : (pulseGate lane s).tcu = s.tcu := rfl
@[simp] theorem pulseGate_slr (lane : Fin 4) (s : State) : (pulseGate lane s).slr = s.slr := rfl
@[simp] theorem pulseGate_lcn (lane : Fin 4) (s : State) : (pulseGate lane s).lcn = s.lcn := rfl
@[simp] theorem pulseGate_htk (lane : Fin 4) (s : State) : (pulseGate lane s).htk = s.htk := rfl
@[simp] theorem pulseGate_cal (lane : Fin 4) (s : State) : (pulseGate lane s).cal = s.cal := rfl
@[simp] theorem pulseGate_stc (lane : Fin 4) (s : State) : (pulseGate lane s).stc = s.stc := rfl
@[simp] theorem pulseGate_tlu (lane : Fin 4) (s : State) : (pulseGate lane s).tlu = s.tlu := rfl
@[simp] theorem pulseGate_mdc (lane : Fin 4) (s : State) : (pulseGate lane s).mdc = s.mdc := rfl
@[simp] theorem pulseGate_rpq (lane : Fin 4) (s : State) : (pulseGate lane s).rpq = s.rpq := rfl
@[simp] theorem pulseGate_cml (lane : Fin 4) (s : State) : (pulseGate lane s).cml = s.cml := rfl
@[simp] theorem pulseGate_openChoices (lane : Fin 4) (s : State) : (pulseGate lane s).openChoices = s.openChoices := rfl
@[simp] theorem pulseGate_pending (lane : Fin 4) (s : State) : (pulseGate lane s).pending = s.pending := rfl

@[simp] theorem closeGate_pins (lane : Fin 4) (s : State) : (closeGate lane s).pins = s.pins := rfl
@[simp] theorem closeGate_settings (lane : Fin 4) (s : State) : (closeGate lane s).settings = s.settings := rfl
@[simp] theorem closeGate_tcu (lane : Fin 4) (s : State) : (closeGate lane s).tcu = s.tcu := rfl
@[simp] theorem closeGate_slr (lane : Fin 4) (s : State) : (closeGate lane s).slr = s.slr := rfl
@[simp] theorem closeGate_lcn (lane : Fin 4) (s : State) : (closeGate lane s).lcn = s.lcn := rfl
@[simp] theorem closeGate_htk (lane : Fin 4) (s : State) : (closeGate lane s).htk = s.htk := rfl
@[simp] theorem closeGate_cal (lane : Fin 4) (s : State) : (closeGate lane s).cal = s.cal := rfl
@[simp] theorem closeGate_stc (lane : Fin 4) (s : State) : (closeGate lane s).stc = s.stc := rfl
@[simp] theorem closeGate_tlu (lane : Fin 4) (s : State) : (closeGate lane s).tlu = s.tlu := rfl
@[simp] theorem closeGate_mdc (lane : Fin 4) (s : State) : (closeGate lane s).mdc = s.mdc := rfl
@[simp] theorem closeGate_rpq (lane : Fin 4) (s : State) : (closeGate lane s).rpq = s.rpq := rfl
@[simp] theorem closeGate_cml (lane : Fin 4) (s : State) : (closeGate lane s).cml = s.cml := rfl
@[simp] theorem closeGate_openChoices (lane : Fin 4) (s : State) : (closeGate lane s).openChoices = s.openChoices := rfl
@[simp] theorem closeGate_pending (lane : Fin 4) (s : State) : (closeGate lane s).pending = s.pending := rfl

@[simp] theorem reportCalibration_pins (cause : CalCause) (tag : Tag) (aRef aRaw : Nat) (flags : FlagSet) (g : Nat) (s : State) : (reportCalibration cause tag aRef aRaw flags g s).pins = s.pins := rfl
@[simp] theorem reportCalibration_settings (cause : CalCause) (tag : Tag) (aRef aRaw : Nat) (flags : FlagSet) (g : Nat) (s : State) : (reportCalibration cause tag aRef aRaw flags g s).settings = s.settings := rfl
@[simp] theorem reportCalibration_tcu (cause : CalCause) (tag : Tag) (aRef aRaw : Nat) (flags : FlagSet) (g : Nat) (s : State) : (reportCalibration cause tag aRef aRaw flags g s).tcu = s.tcu := rfl
@[simp] theorem reportCalibration_slr (cause : CalCause) (tag : Tag) (aRef aRaw : Nat) (flags : FlagSet) (g : Nat) (s : State) : (reportCalibration cause tag aRef aRaw flags g s).slr = s.slr := rfl
@[simp] theorem reportCalibration_lcn (cause : CalCause) (tag : Tag) (aRef aRaw : Nat) (flags : FlagSet) (g : Nat) (s : State) : (reportCalibration cause tag aRef aRaw flags g s).lcn = s.lcn := rfl
@[simp] theorem reportCalibration_htk (cause : CalCause) (tag : Tag) (aRef aRaw : Nat) (flags : FlagSet) (g : Nat) (s : State) : (reportCalibration cause tag aRef aRaw flags g s).htk = s.htk := rfl
@[simp] theorem reportCalibration_cal (cause : CalCause) (tag : Tag) (aRef aRaw : Nat) (flags : FlagSet) (g : Nat) (s : State) : (reportCalibration cause tag aRef aRaw flags g s).cal = s.cal := rfl
@[simp] theorem reportCalibration_stc (cause : CalCause) (tag : Tag) (aRef aRaw : Nat) (flags : FlagSet) (g : Nat) (s : State) : (reportCalibration cause tag aRef aRaw flags g s).stc = s.stc := rfl
@[simp] theorem reportCalibration_tru (cause : CalCause) (tag : Tag) (aRef aRaw : Nat) (flags : FlagSet) (g : Nat) (s : State) : (reportCalibration cause tag aRef aRaw flags g s).tru = s.tru := rfl
@[simp] theorem reportCalibration_tlu (cause : CalCause) (tag : Tag) (aRef aRaw : Nat) (flags : FlagSet) (g : Nat) (s : State) : (reportCalibration cause tag aRef aRaw flags g s).tlu = s.tlu := rfl
@[simp] theorem reportCalibration_mdc (cause : CalCause) (tag : Tag) (aRef aRaw : Nat) (flags : FlagSet) (g : Nat) (s : State) : (reportCalibration cause tag aRef aRaw flags g s).mdc = s.mdc := rfl
@[simp] theorem reportCalibration_cml (cause : CalCause) (tag : Tag) (aRef aRaw : Nat) (flags : FlagSet) (g : Nat) (s : State) : (reportCalibration cause tag aRef aRaw flags g s).cml = s.cml := rfl
@[simp] theorem reportCalibration_openChoices (cause : CalCause) (tag : Tag) (aRef aRaw : Nat) (flags : FlagSet) (g : Nat) (s : State) : (reportCalibration cause tag aRef aRaw flags g s).openChoices = s.openChoices := rfl
@[simp] theorem reportCalibration_pending (cause : CalCause) (tag : Tag) (aRef aRaw : Nat) (flags : FlagSet) (g : Nat) (s : State) : (reportCalibration cause tag aRef aRaw flags g s).pending = s.pending := rfl

@[simp] theorem scanStart_pins (s : State) : (scanStart s).pins = s.pins := rfl
@[simp] theorem scanStart_settings (s : State) : (scanStart s).settings = s.settings := rfl
@[simp] theorem scanStart_tcu (s : State) : (scanStart s).tcu = s.tcu := rfl
@[simp] theorem scanStart_lcn (s : State) : (scanStart s).lcn = s.lcn := rfl
@[simp] theorem scanStart_htk (s : State) : (scanStart s).htk = s.htk := rfl
@[simp] theorem scanStart_cal (s : State) : (scanStart s).cal = s.cal := rfl
@[simp] theorem scanStart_stc (s : State) : (scanStart s).stc = s.stc := rfl
@[simp] theorem scanStart_tru (s : State) : (scanStart s).tru = s.tru := rfl
@[simp] theorem scanStart_tlu (s : State) : (scanStart s).tlu = s.tlu := rfl
@[simp] theorem scanStart_mdc (s : State) : (scanStart s).mdc = s.mdc := rfl
@[simp] theorem scanStart_rpq (s : State) : (scanStart s).rpq = s.rpq := rfl
@[simp] theorem scanStart_cml (s : State) : (scanStart s).cml = s.cml := rfl
@[simp] theorem scanStart_openChoices (s : State) : (scanStart s).openChoices = s.openChoices := rfl
@[simp] theorem scanStart_pending (s : State) : (scanStart s).pending = s.pending := rfl

@[simp] theorem scanEnd_pins (s : State) : (scanEnd s).pins = s.pins := rfl
@[simp] theorem scanEnd_settings (s : State) : (scanEnd s).settings = s.settings := rfl
@[simp] theorem scanEnd_tcu (s : State) : (scanEnd s).tcu = s.tcu := rfl
@[simp] theorem scanEnd_lcn (s : State) : (scanEnd s).lcn = s.lcn := rfl
@[simp] theorem scanEnd_htk (s : State) : (scanEnd s).htk = s.htk := rfl
@[simp] theorem scanEnd_cal (s : State) : (scanEnd s).cal = s.cal := rfl
@[simp] theorem scanEnd_stc (s : State) : (scanEnd s).stc = s.stc := rfl
@[simp] theorem scanEnd_tru (s : State) : (scanEnd s).tru = s.tru := rfl
@[simp] theorem scanEnd_tlu (s : State) : (scanEnd s).tlu = s.tlu := rfl
@[simp] theorem scanEnd_mdc (s : State) : (scanEnd s).mdc = s.mdc := rfl
@[simp] theorem scanEnd_rpq (s : State) : (scanEnd s).rpq = s.rpq := rfl
@[simp] theorem scanEnd_cml (s : State) : (scanEnd s).cml = s.cml := rfl
@[simp] theorem scanEnd_openChoices (s : State) : (scanEnd s).openChoices = s.openChoices := rfl
@[simp] theorem scanEnd_pending (s : State) : (scanEnd s).pending = s.pending := rfl

@[simp] theorem trackingStart_pins (s : State) : (trackingStart s).pins = s.pins := rfl
@[simp] theorem trackingStart_settings (s : State) : (trackingStart s).settings = s.settings := rfl
@[simp] theorem trackingStart_tcu (s : State) : (trackingStart s).tcu = s.tcu := rfl
@[simp] theorem trackingStart_slr (s : State) : (trackingStart s).slr = s.slr := rfl
@[simp] theorem trackingStart_lcn (s : State) : (trackingStart s).lcn = s.lcn := rfl
@[simp] theorem trackingStart_cal (s : State) : (trackingStart s).cal = s.cal := rfl
@[simp] theorem trackingStart_stc (s : State) : (trackingStart s).stc = s.stc := rfl
@[simp] theorem trackingStart_tru (s : State) : (trackingStart s).tru = s.tru := rfl
@[simp] theorem trackingStart_tlu (s : State) : (trackingStart s).tlu = s.tlu := rfl
@[simp] theorem trackingStart_mdc (s : State) : (trackingStart s).mdc = s.mdc := rfl
@[simp] theorem trackingStart_rpq (s : State) : (trackingStart s).rpq = s.rpq := rfl
@[simp] theorem trackingStart_cml (s : State) : (trackingStart s).cml = s.cml := rfl
@[simp] theorem trackingStart_openChoices (s : State) : (trackingStart s).openChoices = s.openChoices := rfl
@[simp] theorem trackingStart_pending (s : State) : (trackingStart s).pending = s.pending := rfl

@[simp] theorem gridStart_pins (s : State) : (gridStart s).pins = s.pins := rfl
@[simp] theorem gridStart_settings (s : State) : (gridStart s).settings = s.settings := rfl
@[simp] theorem gridStart_lcn (s : State) : (gridStart s).lcn = s.lcn := rfl
@[simp] theorem gridStart_cal (s : State) : (gridStart s).cal = s.cal := rfl
@[simp] theorem gridStart_stc (s : State) : (gridStart s).stc = s.stc := rfl
@[simp] theorem gridStart_tru (s : State) : (gridStart s).tru = s.tru := rfl
@[simp] theorem gridStart_tlu (s : State) : (gridStart s).tlu = s.tlu := rfl
@[simp] theorem gridStart_mdc (s : State) : (gridStart s).mdc = s.mdc := rfl
@[simp] theorem gridStart_rpq (s : State) : (gridStart s).rpq = s.rpq := rfl
@[simp] theorem gridStart_cml (s : State) : (gridStart s).cml = s.cml := rfl
@[simp] theorem gridStart_openChoices (s : State) : (gridStart s).openChoices = s.openChoices := rfl
@[simp] theorem gridStart_pending (s : State) : (gridStart s).pending = s.pending := rfl

@[simp] theorem gridRestart_pins (s : State) : (gridRestart s).pins = s.pins := rfl
@[simp] theorem gridRestart_settings (s : State) : (gridRestart s).settings = s.settings := rfl
@[simp] theorem gridRestart_lcn (s : State) : (gridRestart s).lcn = s.lcn := rfl
@[simp] theorem gridRestart_cal (s : State) : (gridRestart s).cal = s.cal := rfl
@[simp] theorem gridRestart_stc (s : State) : (gridRestart s).stc = s.stc := rfl
@[simp] theorem gridRestart_tru (s : State) : (gridRestart s).tru = s.tru := rfl
@[simp] theorem gridRestart_tlu (s : State) : (gridRestart s).tlu = s.tlu := rfl
@[simp] theorem gridRestart_mdc (s : State) : (gridRestart s).mdc = s.mdc := rfl
@[simp] theorem gridRestart_rpq (s : State) : (gridRestart s).rpq = s.rpq := rfl
@[simp] theorem gridRestart_cml (s : State) : (gridRestart s).cml = s.cml := rfl
@[simp] theorem gridRestart_openChoices (s : State) : (gridRestart s).openChoices = s.openChoices := rfl
@[simp] theorem gridRestart_pending (s : State) : (gridRestart s).pending = s.pending := rfl

@[simp] theorem enterMode_pins (m : Mode) (cause : FaultCause) (s : State) : (enterMode m cause s).pins = s.pins := rfl
@[simp] theorem enterMode_settings (m : Mode) (cause : FaultCause) (s : State) : (enterMode m cause s).settings = s.settings := rfl
@[simp] theorem enterMode_slr (m : Mode) (cause : FaultCause) (s : State) : (enterMode m cause s).slr = s.slr := rfl
@[simp] theorem enterMode_lcn (m : Mode) (cause : FaultCause) (s : State) : (enterMode m cause s).lcn = s.lcn := rfl
@[simp] theorem enterMode_htk (m : Mode) (cause : FaultCause) (s : State) : (enterMode m cause s).htk = s.htk := rfl
@[simp] theorem enterMode_cal (m : Mode) (cause : FaultCause) (s : State) : (enterMode m cause s).cal = s.cal := rfl
@[simp] theorem enterMode_stc (m : Mode) (cause : FaultCause) (s : State) : (enterMode m cause s).stc = s.stc := rfl
@[simp] theorem enterMode_tru (m : Mode) (cause : FaultCause) (s : State) : (enterMode m cause s).tru = s.tru := rfl
@[simp] theorem enterMode_tlu (m : Mode) (cause : FaultCause) (s : State) : (enterMode m cause s).tlu = s.tlu := rfl
@[simp] theorem enterMode_rpq (m : Mode) (cause : FaultCause) (s : State) : (enterMode m cause s).rpq = s.rpq := rfl
@[simp] theorem enterMode_cml (m : Mode) (cause : FaultCause) (s : State) : (enterMode m cause s).cml = s.cml := rfl
@[simp] theorem enterMode_openChoices (m : Mode) (cause : FaultCause) (s : State) : (enterMode m cause s).openChoices = s.openChoices := rfl
@[simp] theorem enterMode_pending (m : Mode) (cause : FaultCause) (s : State) : (enterMode m cause s).pending = s.pending := rfl

@[simp] theorem changeMode_pins (m : Mode) (fault : FaultCause) (cause : ModeCause) (closed : Nat) (s : State) : (changeMode m fault cause closed s).pins = s.pins := rfl
@[simp] theorem changeMode_settings (m : Mode) (fault : FaultCause) (cause : ModeCause) (closed : Nat) (s : State) : (changeMode m fault cause closed s).settings = s.settings := rfl
@[simp] theorem changeMode_slr (m : Mode) (fault : FaultCause) (cause : ModeCause) (closed : Nat) (s : State) : (changeMode m fault cause closed s).slr = s.slr := rfl
@[simp] theorem changeMode_lcn (m : Mode) (fault : FaultCause) (cause : ModeCause) (closed : Nat) (s : State) : (changeMode m fault cause closed s).lcn = s.lcn := rfl
@[simp] theorem changeMode_htk (m : Mode) (fault : FaultCause) (cause : ModeCause) (closed : Nat) (s : State) : (changeMode m fault cause closed s).htk = s.htk := rfl
@[simp] theorem changeMode_cal (m : Mode) (fault : FaultCause) (cause : ModeCause) (closed : Nat) (s : State) : (changeMode m fault cause closed s).cal = s.cal := rfl
@[simp] theorem changeMode_stc (m : Mode) (fault : FaultCause) (cause : ModeCause) (closed : Nat) (s : State) : (changeMode m fault cause closed s).stc = s.stc := rfl
@[simp] theorem changeMode_tru (m : Mode) (fault : FaultCause) (cause : ModeCause) (closed : Nat) (s : State) : (changeMode m fault cause closed s).tru = s.tru := rfl
@[simp] theorem changeMode_tlu (m : Mode) (fault : FaultCause) (cause : ModeCause) (closed : Nat) (s : State) : (changeMode m fault cause closed s).tlu = s.tlu := rfl
@[simp] theorem changeMode_cml (m : Mode) (fault : FaultCause) (cause : ModeCause) (closed : Nat) (s : State) : (changeMode m fault cause closed s).cml = s.cml := rfl
@[simp] theorem changeMode_openChoices (m : Mode) (fault : FaultCause) (cause : ModeCause) (closed : Nat) (s : State) : (changeMode m fault cause closed s).openChoices = s.openChoices := rfl
@[simp] theorem changeMode_pending (m : Mode) (fault : FaultCause) (cause : ModeCause) (closed : Nat) (s : State) : (changeMode m fault cause closed s).pending = s.pending := rfl

@[simp] theorem requestLine_pins (n : Count) (s : State) : (requestLine n s).pins = s.pins := rfl
@[simp] theorem requestLine_settings (n : Count) (s : State) : (requestLine n s).settings = s.settings := rfl
@[simp] theorem requestLine_tcu (n : Count) (s : State) : (requestLine n s).tcu = s.tcu := rfl
@[simp] theorem requestLine_lcn (n : Count) (s : State) : (requestLine n s).lcn = s.lcn := rfl
@[simp] theorem requestLine_htk (n : Count) (s : State) : (requestLine n s).htk = s.htk := rfl
@[simp] theorem requestLine_cal (n : Count) (s : State) : (requestLine n s).cal = s.cal := rfl
@[simp] theorem requestLine_stc (n : Count) (s : State) : (requestLine n s).stc = s.stc := rfl
@[simp] theorem requestLine_tru (n : Count) (s : State) : (requestLine n s).tru = s.tru := rfl
@[simp] theorem requestLine_tlu (n : Count) (s : State) : (requestLine n s).tlu = s.tlu := rfl
@[simp] theorem requestLine_mdc (n : Count) (s : State) : (requestLine n s).mdc = s.mdc := rfl
@[simp] theorem requestLine_rpq (n : Count) (s : State) : (requestLine n s).rpq = s.rpq := rfl
@[simp] theorem requestLine_cml (n : Count) (s : State) : (requestLine n s).cml = s.cml := rfl
@[simp] theorem requestLine_openChoices (n : Count) (s : State) : (requestLine n s).openChoices = s.openChoices := rfl
@[simp] theorem requestLine_pending (n : Count) (s : State) : (requestLine n s).pending = s.pending := rfl

@[simp] theorem restartStallTimer_pins (s : State) : (restartStallTimer s).pins = s.pins := rfl
@[simp] theorem restartStallTimer_settings (s : State) : (restartStallTimer s).settings = s.settings := rfl
@[simp] theorem restartStallTimer_slr (s : State) : (restartStallTimer s).slr = s.slr := rfl
@[simp] theorem restartStallTimer_lcn (s : State) : (restartStallTimer s).lcn = s.lcn := rfl
@[simp] theorem restartStallTimer_htk (s : State) : (restartStallTimer s).htk = s.htk := rfl
@[simp] theorem restartStallTimer_cal (s : State) : (restartStallTimer s).cal = s.cal := rfl
@[simp] theorem restartStallTimer_stc (s : State) : (restartStallTimer s).stc = s.stc := rfl
@[simp] theorem restartStallTimer_tru (s : State) : (restartStallTimer s).tru = s.tru := rfl
@[simp] theorem restartStallTimer_tlu (s : State) : (restartStallTimer s).tlu = s.tlu := rfl
@[simp] theorem restartStallTimer_mdc (s : State) : (restartStallTimer s).mdc = s.mdc := rfl
@[simp] theorem restartStallTimer_rpq (s : State) : (restartStallTimer s).rpq = s.rpq := rfl
@[simp] theorem restartStallTimer_cml (s : State) : (restartStallTimer s).cml = s.cml := rfl
@[simp] theorem restartStallTimer_openChoices (s : State) : (restartStallTimer s).openChoices = s.openChoices := rfl
@[simp] theorem restartStallTimer_pending (s : State) : (restartStallTimer s).pending = s.pending := rfl

@[simp] theorem evaluateAttn_pins (s : State) : (evaluateAttn s).pins = s.pins := rfl
@[simp] theorem evaluateAttn_settings (s : State) : (evaluateAttn s).settings = s.settings := rfl
@[simp] theorem evaluateAttn_tcu (s : State) : (evaluateAttn s).tcu = s.tcu := rfl
@[simp] theorem evaluateAttn_slr (s : State) : (evaluateAttn s).slr = s.slr := rfl
@[simp] theorem evaluateAttn_lcn (s : State) : (evaluateAttn s).lcn = s.lcn := rfl
@[simp] theorem evaluateAttn_htk (s : State) : (evaluateAttn s).htk = s.htk := rfl
@[simp] theorem evaluateAttn_cal (s : State) : (evaluateAttn s).cal = s.cal := rfl
@[simp] theorem evaluateAttn_stc (s : State) : (evaluateAttn s).stc = s.stc := rfl
@[simp] theorem evaluateAttn_tru (s : State) : (evaluateAttn s).tru = s.tru := rfl
@[simp] theorem evaluateAttn_tlu (s : State) : (evaluateAttn s).tlu = s.tlu := rfl
@[simp] theorem evaluateAttn_mdc (s : State) : (evaluateAttn s).mdc = s.mdc := rfl
@[simp] theorem evaluateAttn_cml (s : State) : (evaluateAttn s).cml = s.cml := rfl
@[simp] theorem evaluateAttn_openChoices (s : State) : (evaluateAttn s).openChoices = s.openChoices := rfl
@[simp] theorem evaluateAttn_pending (s : State) : (evaluateAttn s).pending = s.pending := rfl

@[simp] theorem linkError_pins (s : State) : (linkError s).pins = s.pins := rfl
@[simp] theorem linkError_settings (s : State) : (linkError s).settings = s.settings := rfl
@[simp] theorem linkError_tcu (s : State) : (linkError s).tcu = s.tcu := rfl
@[simp] theorem linkError_slr (s : State) : (linkError s).slr = s.slr := rfl
@[simp] theorem linkError_lcn (s : State) : (linkError s).lcn = s.lcn := rfl
@[simp] theorem linkError_htk (s : State) : (linkError s).htk = s.htk := rfl
@[simp] theorem linkError_cal (s : State) : (linkError s).cal = s.cal := rfl
@[simp] theorem linkError_stc (s : State) : (linkError s).stc = s.stc := rfl
@[simp] theorem linkError_tru (s : State) : (linkError s).tru = s.tru := rfl
@[simp] theorem linkError_tlu (s : State) : (linkError s).tlu = s.tlu := rfl
@[simp] theorem linkError_mdc (s : State) : (linkError s).mdc = s.mdc := rfl
@[simp] theorem linkError_rpq (s : State) : (linkError s).rpq = s.rpq := rfl
@[simp] theorem linkError_openChoices (s : State) : (linkError s).openChoices = s.openChoices := rfl
@[simp] theorem linkError_pending (s : State) : (linkError s).pending = s.pending := rfl

@[simp] theorem setReceiver_pins (r : Receiver) (s : State) : (setReceiver r s).pins = s.pins := rfl
@[simp] theorem setReceiver_settings (r : Receiver) (s : State) : (setReceiver r s).settings = s.settings := rfl
@[simp] theorem setReceiver_tcu (r : Receiver) (s : State) : (setReceiver r s).tcu = s.tcu := rfl
@[simp] theorem setReceiver_slr (r : Receiver) (s : State) : (setReceiver r s).slr = s.slr := rfl
@[simp] theorem setReceiver_lcn (r : Receiver) (s : State) : (setReceiver r s).lcn = s.lcn := rfl
@[simp] theorem setReceiver_htk (r : Receiver) (s : State) : (setReceiver r s).htk = s.htk := rfl
@[simp] theorem setReceiver_cal (r : Receiver) (s : State) : (setReceiver r s).cal = s.cal := rfl
@[simp] theorem setReceiver_stc (r : Receiver) (s : State) : (setReceiver r s).stc = s.stc := rfl
@[simp] theorem setReceiver_tru (r : Receiver) (s : State) : (setReceiver r s).tru = s.tru := rfl
@[simp] theorem setReceiver_tlu (r : Receiver) (s : State) : (setReceiver r s).tlu = s.tlu := rfl
@[simp] theorem setReceiver_mdc (r : Receiver) (s : State) : (setReceiver r s).mdc = s.mdc := rfl
@[simp] theorem setReceiver_rpq (r : Receiver) (s : State) : (setReceiver r s).rpq = s.rpq := rfl
@[simp] theorem setReceiver_openChoices (r : Receiver) (s : State) : (setReceiver r s).openChoices = s.openChoices := rfl
@[simp] theorem setReceiver_pending (r : Receiver) (s : State) : (setReceiver r s).pending = s.pending := rfl

@[simp] theorem answers_pins (tag : Byte) (r : Request) (a : Answer) (s : State) : (s.answers tag r a).pins = s.pins := rfl
@[simp] theorem answers_settings (tag : Byte) (r : Request) (a : Answer) (s : State) : (s.answers tag r a).settings = s.settings := rfl
@[simp] theorem answers_tcu (tag : Byte) (r : Request) (a : Answer) (s : State) : (s.answers tag r a).tcu = s.tcu := rfl
@[simp] theorem answers_slr (tag : Byte) (r : Request) (a : Answer) (s : State) : (s.answers tag r a).slr = s.slr := rfl
@[simp] theorem answers_lcn (tag : Byte) (r : Request) (a : Answer) (s : State) : (s.answers tag r a).lcn = s.lcn := rfl
@[simp] theorem answers_htk (tag : Byte) (r : Request) (a : Answer) (s : State) : (s.answers tag r a).htk = s.htk := rfl
@[simp] theorem answers_cal (tag : Byte) (r : Request) (a : Answer) (s : State) : (s.answers tag r a).cal = s.cal := rfl
@[simp] theorem answers_stc (tag : Byte) (r : Request) (a : Answer) (s : State) : (s.answers tag r a).stc = s.stc := rfl
@[simp] theorem answers_tru (tag : Byte) (r : Request) (a : Answer) (s : State) : (s.answers tag r a).tru = s.tru := rfl
@[simp] theorem answers_tlu (tag : Byte) (r : Request) (a : Answer) (s : State) : (s.answers tag r a).tlu = s.tlu := rfl
@[simp] theorem answers_mdc (tag : Byte) (r : Request) (a : Answer) (s : State) : (s.answers tag r a).mdc = s.mdc := rfl
@[simp] theorem answers_rpq (tag : Byte) (r : Request) (a : Answer) (s : State) : (s.answers tag r a).rpq = s.rpq := rfl
@[simp] theorem answers_openChoices (tag : Byte) (r : Request) (a : Answer) (s : State) : (s.answers tag r a).openChoices = s.openChoices := rfl
@[simp] theorem answers_pending (tag : Byte) (r : Request) (a : Answer) (s : State) : (s.answers tag r a).pending = s.pending := rfl

@[simp] theorem softBlocks_pins (s : State) : (softBlocks s).pins = s.pins := rfl
@[simp] theorem softBlocks_settings (s : State) : (softBlocks s).settings = s.settings := rfl
@[simp] theorem softBlocks_cml (s : State) : (softBlocks s).cml = s.cml := rfl
@[simp] theorem softBlocks_openChoices (s : State) : (softBlocks s).openChoices = s.openChoices := rfl
@[simp] theorem softBlocks_pending (s : State) : (softBlocks s).pending = s.pending := rfl

@[simp] theorem softReset_pins (s : State) : (softReset s).pins = s.pins := rfl
@[simp] theorem softReset_settings (s : State) : (softReset s).settings = s.settings := rfl
@[simp] theorem softReset_openChoices (s : State) : (softReset s).openChoices = s.openChoices := rfl
@[simp] theorem softReset_pending (s : State) : (softReset s).pending = s.pending := rfl

/-! ### What the plain updates write -/

@[simp] theorem submit_rpq (r : Record) (s : State) : (submit r s).rpq = s.rpq.offer s.settings r := rfl
@[simp] theorem setChannel_stc (h : Fin 4) (c : Channel) (s : State) : (setChannel h c s).stc = s.stc.set h c := rfl
@[simp] theorem sendScan_slr (frame : List Byte) (s : State) :
    (sendScan frame s).slr = { s.slr with sent := s.slr.sent ++ [frame] } := rfl
@[simp] theorem putOrder_tru (tag : Tag) (st : OrderState) (flags : FlagSet) (s : State) :
    (putOrder tag st flags s).tru = s.tru.changeOrder tag (fun o => { o with state := st }) flags := rfl
@[simp] theorem setLot_tlu (slot : Fin 4) (l : Lot) (s : State) :
    (setLot slot l s).tlu = { s.tlu with lots := s.tlu.lots.set slot l } := rfl
@[simp] theorem enterMode_mdc (m : Mode) (cause : FaultCause) (s : State) : (enterMode m cause s).mdc = ⟨m, cause⟩ := rfl
@[simp] theorem changeMode_mdc (m : Mode) (fault : FaultCause) (cause : ModeCause) (closed : Nat) (s : State) :
    (changeMode m fault cause closed s).mdc = ⟨m, fault⟩ := rfl
@[simp] theorem linkError_cml (s : State) :
    (linkError s).cml = { s.cml with linkErrors := bump s.cml.linkErrors } := rfl
@[simp] theorem setReceiver_cml (r : Receiver) (s : State) :
    (setReceiver r s).cml = { s.cml with receiver := r } := rfl
@[simp] theorem answers_cml (tag : Byte) (r : Request) (a : Answer) (s : State) :
    (s.answers tag r a).cml = s.cml.answering tag r a := rfl

/-! ### The four-fold array -/

/-- A place that was set reads as set. -/
@[simp] theorem Quad.get_set_same {α : Type} (q : Quad α) (i : Fin 4) (v : α) : (q.set i v).get i = v := by
  match i with
  | 0 => rfl
  | 1 => rfl
  | 2 => rfl
  | 3 => rfl

/-- Every other place reads as before. -/
theorem Quad.get_set_other {α : Type} (q : Quad α) {i j : Fin 4} (v : α) (h : j ≠ i) :
    (q.set i v).get j = q.get j := by
  match i, j with
  | 0, 0 | 1, 1 | 2, 2 | 3, 3 => exact absurd rfl h
  | 0, 1 | 0, 2 | 0, 3 | 1, 0 | 1, 2 | 1, 3 | 2, 0 | 2, 1 | 2, 3 | 3, 0 | 3, 1 | 3, 2 => rfl

@[simp] theorem Quad.get_const {α : Type} (v : α) (i : Fin 4) : (Quad.const v).get i = v := by
  match i with
  | 0 => rfl
  | 1 => rfl
  | 2 => rfl
  | 3 => rfl

@[simp] theorem Quad.get_map {α β : Type} (f : α → β) (q : Quad α) (i : Fin 4) : (q.map f).get i = f (q.get i) := by
  match i with
  | 0 => rfl
  | 1 => rfl
  | 2 => rfl
  | 3 => rfl

/-- Two arrays that agree in every place are one. -/
theorem Quad.ext_get {α : Type} {p q : Quad α} (h : ∀ i, p.get i = q.get i) : p = q := by
  have h0 : p.e0 = q.e0 := h 0
  have h1 : p.e1 = q.e1 := h 1
  have h2 : p.e2 = q.e2 := h 2
  have h3 : p.e3 = q.e3 := h 3
  cases p
  cases q
  simp_all

end Sys2Proof.Machine
end

