-- ==== Sys2Proof/Laws/Ops.lean ====
section
/-! SUPPORT. What the shared operations can do, said once each: the list helpers, report admission, the one-shot
marks, the targets and closes of the tally, and the host link. -/

namespace Sys2Proof.Machine

/-! ### Lists -/

theorem insertBy_perm {α : Type} (key : α → Nat) (x : α) (l : List α) : (insertBy key x l).Perm (x :: l) := by
  induction l with
  | nil => exact .refl _
  | cons y ys ih =>
    unfold insertBy
    split
    · exact .refl _
    · exact (ih.cons y).trans (.swap x y ys)

theorem sortBy_perm {α : Type} (key : α → Nat) (l : List α) : (sortBy key l).Perm l := by
  induction l with
  | nil => exact .refl _
  | cons x xs ih => exact (insertBy_perm key x _).trans (ih.cons x)

@[simp] theorem insertBy_length {α : Type} (key : α → Nat) (x : α) (l : List α) :
    (insertBy key x l).length = l.length + 1 := (insertBy_perm key x l).length_eq

@[simp] theorem sortBy_length {α : Type} (key : α → Nat) (l : List α) : (sortBy key l).length = l.length :=
  (sortBy_perm key l).length_eq

@[simp] theorem mem_insertBy {α : Type} (key : α → Nat) (x y : α) (l : List α) :
    y ∈ insertBy key x l ↔ y = x ∨ y ∈ l := by
  rw [(insertBy_perm key x l).mem_iff, List.mem_cons]

@[simp] theorem mem_sortBy {α : Type} (key : α → Nat) (y : α) (l : List α) : y ∈ sortBy key l ↔ y ∈ l :=
  (sortBy_perm key l).mem_iff

/-- An insertion into a list that rises by a key leaves it rising. -/
theorem insertBy_sorted {α : Type} (key : α → Nat) (x : α) (l : List α)
    (h : l.Pairwise (fun a b => key a ≤ key b)) : (insertBy key x l).Pairwise (fun a b => key a ≤ key b) := by
  induction l with
  | nil => simp [insertBy]
  | cons y ys ih =>
    obtain ⟨hy, hys⟩ := List.pairwise_cons.mp h
    unfold insertBy
    split
    · rename_i hlt
      refine List.pairwise_cons.mpr ⟨fun a ha => ?_, h⟩
      obtain rfl | ha := List.mem_cons.mp ha
      · exact hlt.le
      · exact hlt.le.trans (hy a ha)
    · rename_i hnlt
      refine List.pairwise_cons.mpr ⟨fun a ha => ?_, ih hys⟩
      obtain rfl | ha := (mem_insertBy key x a ys).mp ha
      · omega
      · exact hy a ha

theorem sortBy_sorted {α : Type} (key : α → Nat) (l : List α) :
    (sortBy key l).Pairwise (fun a b => key a ≤ key b) := by
  induction l with
  | nil => exact .nil
  | cons x xs ih => exact insertBy_sorted key x _ ih

theorem putAt_perm {α : Type} (k : Nat) (x : α) (l : List α) : (putAt k x l).Perm (x :: l) := by
  unfold putAt
  exact List.perm_middle.trans (by rw [List.take_append_drop])

/-- Whatever the order chosen, the list arranged holds what the list holds. -/
theorem arrange_perm {α : Type} (k : Nat) (l : List α) : (arrange k l).Perm l := by
  induction l generalizing k with
  | nil => exact .refl _
  | cons x xs ih =>
    cases xs with
    | nil => exact .refl _
    | cons y ys => exact (putAt_perm _ x _).trans ((ih _).cons x)

/-- A counter of two bytes never passes its stop. -/
theorem bump_le (n : Nat) : bump n ≤ 65535 := Nat.min_le_right _ _

theorem le_bump {n : Nat} (h : n ≤ 65535) : n ≤ bump n := by
  simp only [bump, Config.counterTop]
  omega

/-! ### Report admission (R195) -/

/-- Admission does one of three things: it discards, it loses, or it admits at the end (R195). -/
theorem offer_cases (c : Settings) (r : Record) (q : Rpq) :
    (r.level ≤ c.notice ∧ q.offer c r = q)
    ∨ (c.notice < r.level ∧ ((r.level ≤ 5 ∧ 28 ≤ q.queue.length) ∨ (6 ≤ r.level ∧ 32 ≤ q.queue.length))
        ∧ q.offer c r = { q with dropCount := bump q.dropCount })
    ∨ (c.notice < r.level ∧ ((r.level ≤ 5 ∧ q.queue.length < 28) ∨ (6 ≤ r.level ∧ q.queue.length < 32))
        ∧ q.offer c r =
          { q with queue := q.queue ++ [r], attn := decide (c.attnThreshold < q.queue.length + 1) }) := by
  unfold Rpq.offer
  by_cases hn : r.level ≤ c.notice
  · exact .inl ⟨hn, if_pos hn⟩
  · rw [if_neg hn]
    have hn' : c.notice < r.level := by omega
    by_cases hl : (r.level ≤ 5 ∧ Config.queueReserve ≤ q.queue.length)
        ∨ (6 ≤ r.level ∧ Config.queueSize ≤ q.queue.length)
    · exact .inr (.inl ⟨hn', hl, if_pos hl⟩)
    · rw [if_neg hl]
      simp only [Config.queueReserve, Config.queueSize] at hl
      exact .inr (.inr ⟨hn', by omega, by simp [attnLevel]⟩)

@[simp] theorem offer_tableFull (c : Settings) (r : Record) (q : Rpq) : (q.offer c r).tableFull = q.tableFull := by
  obtain ⟨-, h⟩ | ⟨-, -, h⟩ | ⟨-, -, h⟩ := offer_cases c r q <;> rw [h]

@[simp] theorem offer_transitFull (c : Settings) (r : Record) (q : Rpq) :
    (q.offer c r).transitFull = q.transitFull := by
  obtain ⟨-, h⟩ | ⟨-, -, h⟩ | ⟨-, -, h⟩ := offer_cases c r q <;> rw [h]

/-- Admission keeps the queue's limits (R194, R195). -/
theorem offer_keeps_limits (c : Settings) (r : Record) (q : Rpq)
    (h : q.queue.length ≤ 32 ∧ ∀ x ∈ q.queue.drop 28, 6 ≤ x.level) :
    (q.offer c r).queue.length ≤ 32 ∧ ∀ x ∈ (q.offer c r).queue.drop 28, 6 ≤ x.level := by
  obtain ⟨-, he⟩ | ⟨-, -, he⟩ | ⟨-, hl, he⟩ := offer_cases c r q <;> rw [he]
  · exact h
  · exact h
  · refine ⟨by simp; omega, fun x hx => ?_⟩
    rw [List.drop_append] at hx
    obtain hx | hx := List.mem_append.mp hx
    · exact h.2 x hx
    · obtain ⟨hlow, hlen⟩ | ⟨hhigh, -⟩ := hl
      · rw [List.drop_eq_nil_of_le (by omega : q.queue.length ≤ 28)] at *
        have hm := List.mem_of_mem_drop hx
        have : (List.drop (28 - q.queue.length) [r]).length = 0 := by simp; omega
        rw [List.length_eq_zero_iff.mp this] at hx
        exact absurd hx (List.not_mem_nil)
      · rw [List.mem_singleton.mp (List.mem_of_mem_drop hx)]
        exact hhigh

/-- An occurrence submits its record and disarms an armed mark, and is counted at a disarmed one (R197). -/
theorem occurrence_cases (k : OneShotKind) (r : Record) (s : State) :
    ((s.rpq.oneShot k).armed = true ∧ occurrence k r s =
      { s with rpq := (s.rpq.offer s.settings r).setOneShot k ⟨false, (s.rpq.oneShot k).count⟩ })
    ∨ ((s.rpq.oneShot k).armed = false ∧ occurrence k r s =
      { s with rpq := s.rpq.setOneShot k ⟨false, bump (s.rpq.oneShot k).count⟩ }) := by
  unfold occurrence
  cases h : (s.rpq.oneShot k).armed
  · exact .inr ⟨rfl, by simp⟩
  · exact .inl ⟨rfl, by simp⟩

/-! ### Closes of the tally (R145, R147, R148, R159) -/

/-- A pack closes into the store while it has room, and into WAIT otherwise (R147, R148). -/
theorem closePack_cases (lane : Fin 4) (cause : CloseCause) (s : State) :
    (s.tlu.tickets.length < 8 ∧ closePack lane cause s = storePackTicket lane cause false s)
    ∨ (8 ≤ s.tlu.tickets.length ∧ closePack lane cause s = packEntersWait lane cause s) := by
  unfold closePack Tlu.hasRoom
  by_cases h : s.tlu.tickets.length < 8
  · exact .inl ⟨h, by simp [Config.storeSize, h]⟩
  · exact .inr ⟨by omega, by simp [Config.storeSize, h]⟩

/-- The target check closes an OPEN pack at its target, and does nothing else (R145). -/
theorem targetCheck_cases (lane : Fin 4) (s : State) :
    ((s.tlu.packs.get lane).state = .opened ∧ (s.tlu.packs.get lane).meets (s.settings.target.get lane) = true
      ∧ targetCheck lane s = closePack lane .target s)
    ∨ targetCheck lane s = s := by
  unfold targetCheck
  cases h : targetMet lane s
  · exact .inr (by simp)
  · simp only [targetMet, Bool.and_eq_true, decide_eq_true_eq] at h
    exact .inl ⟨h.1, h.2, by simp⟩

/-- A closing lot's ticket goes into the store while it has room; else the lot is marked and waits (R159). -/
theorem closeLot_cases (slot : Fin 4) (s : State) :
    (s.tlu.tickets.length < 8 ∧ closeLot slot s = storeLotTicket slot false s)
    ∨ (8 ≤ s.tlu.tickets.length ∧ closeLot slot s =
      { s with tlu := { s.tlu with
          lots := s.tlu.lots.set slot { s.tlu.lots.get slot with mark := true }
          waiters := s.tlu.waiters ++ [.lot slot] } }) := by
  unfold closeLot Tlu.hasRoom
  by_cases h : s.tlu.tickets.length < 8
  · exact .inl ⟨h, by simp [Config.storeSize, h]⟩
  · exact .inr ⟨by omega, by simp [Config.storeSize, h, setLot]⟩

/-! ### The host link (R184, R185) -/

/-- While the part listens, a request is taken at once: its answer is formed from the state it left (R184, R185). -/
theorem receive_listening {s : State} (h : s.listening) (t : Telegram) :
    receive t s = answer t { s with cml := { s.cml with buffer := [t] } } := by
  simp only [receive, takeRequest, h.2.1, h.2.2, List.length_nil, Config.bufferSize, List.nil_append]
  rfl

/-- While a reply is being sent, a request waits in the second place (R184). -/
theorem receive_waits {s : State} {first : Telegram} {reply : List Byte} (t : Telegram)
    (hb : s.cml.buffer = [first]) (hr : s.cml.reply = some reply) :
    receive t s = { s with cml := { s.cml with buffer := [first, t] } } := by
  simp only [receive, takeRequest, hb, hr, List.length_singleton, Config.bufferSize, List.cons_append,
    List.nil_append]
  rfl

/-- With both places held a request is discarded with a link error (R184). -/
theorem receive_full {s : State} (t : Telegram) (hb : 2 ≤ s.cml.buffer.length) : receive t s = linkError s := by
  unfold receive
  rw [if_neg (by simp only [Config.bufferSize]; omega)]

/-- A command acts as its effect says while the reset input is released. -/
theorem unlessReset_released {s : State} (h : s.pins.resetAsserted = false) (f : State → State) :
    unlessReset s f = .next (f s) := by
  simp [unlessReset, h]

/-- Every command but a level or a reset leaves the part as it is while the reset input is asserted (R203). -/
theorem unlessReset_asserted {s : State} (h : s.pins.resetAsserted = true) (f : State → State) :
    unlessReset s f = .next s := by
  simp [unlessReset, h]

end Sys2Proof.Machine
end

