-- ==== Sys2Proof/Laws/Frames.lean ====
section
/-! SUPPORT. What whole chains of operations leave alone. The output chain (stamps, transit, tally) writes only its
own blocks and the report queue; the closing of hides writes, beyond those, the gain and the calibration request;
a line writes, beyond those, the Hide Tracker and the Line Conditioner. -/

namespace Sys2Proof.Machine

/-- t is s but for the stamp channels, the transit unit, the tally and the report queue. -/
structure SameUpstream (s t : State) : Prop where
  pins : t.pins = s.pins
  settings : t.settings = s.settings
  tcu : t.tcu = s.tcu
  slr : t.slr = s.slr
  lcn : t.lcn = s.lcn
  htk : t.htk = s.htk
  cal : t.cal = s.cal
  mdc : t.mdc = s.mdc
  cml : t.cml = s.cml
  openChoices : t.openChoices = s.openChoices
  pending : t.pending = s.pending

theorem SameUpstream.refl (s : State) : SameUpstream s s := ⟨rfl, rfl, rfl, rfl, rfl, rfl, rfl, rfl, rfl, rfl, rfl⟩

theorem SameUpstream.trans {s t u : State} (a : SameUpstream s t) (b : SameUpstream t u) : SameUpstream s u :=
  ⟨b.pins.trans a.pins, b.settings.trans a.settings, b.tcu.trans a.tcu, b.slr.trans a.slr, b.lcn.trans a.lcn,
    b.htk.trans a.htk, b.cal.trans a.cal, b.mdc.trans a.mdc, b.cml.trans a.cml,
    b.openChoices.trans a.openChoices, b.pending.trans a.pending⟩

/-- A fold of steps that each keep the upstream blocks keeps them. -/
theorem SameUpstream.foldl {α : Type} (f : State → α → State) (hf : ∀ s a, SameUpstream s (f s a)) (l : List α)
    (s : State) : SameUpstream s (l.foldl f s) := by
  induction l generalizing s with
  | nil => exact .refl s
  | cons a l ih => exact (hf s a).trans (ih _)

/-! ### Tally -/

theorem submit_upstream (r : Record) (s : State) : SameUpstream s (submit r s) :=
  ⟨rfl, rfl, rfl, rfl, rfl, rfl, rfl, rfl, rfl, rfl, rfl⟩

theorem occurrence_upstream (k : OneShotKind) (r : Record) (s : State) : SameUpstream s (occurrence k r s) := by
  obtain ⟨-, h⟩ | ⟨-, h⟩ := occurrence_cases k r s <;> rw [h] <;>
    exact ⟨rfl, rfl, rfl, rfl, rfl, rfl, rfl, rfl, rfl, rfl, rfl⟩

theorem closePack_upstream (lane : Fin 4) (cause : CloseCause) (s : State) :
    SameUpstream s (closePack lane cause s) := by
  obtain ⟨-, h⟩ | ⟨-, h⟩ := closePack_cases lane cause s <;> rw [h] <;>
    exact ⟨rfl, rfl, rfl, rfl, rfl, rfl, rfl, rfl, rfl, rfl, rfl⟩

theorem targetCheck_upstream (lane : Fin 4) (s : State) : SameUpstream s (targetCheck lane s) := by
  obtain ⟨-, -, h⟩ | h := targetCheck_cases lane s <;> rw [h]
  · exact closePack_upstream _ _ _
  · exact .refl s

theorem tallyPack_upstream (lane : Fin 4) (figure area : Nat) (s : State) :
    SameUpstream s (tallyPack lane figure area s) := by
  unfold tallyPack
  refine SameUpstream.trans ?_ (targetCheck_upstream _ _)
  exact ⟨rfl, rfl, rfl, rfl, rfl, rfl, rfl, rfl, rfl, rfl, rfl⟩

theorem closeLot_upstream (slot : Fin 4) (s : State) : SameUpstream s (closeLot slot s) := by
  obtain ⟨-, h⟩ | ⟨-, h⟩ := closeLot_cases slot s <;> rw [h] <;>
    exact ⟨rfl, rfl, rfl, rfl, rfl, rfl, rfl, rfl, rfl, rfl, rfl⟩

theorem lowerInFlight_upstream (slot : Fin 4) (s : State) : SameUpstream s (lowerInFlight slot s) := by
  unfold lowerInFlight
  simp only
  split
  · refine SameUpstream.trans ?_ (closeLot_upstream _ _)
    exact ⟨rfl, rfl, rfl, rfl, rfl, rfl, rfl, rfl, rfl, rfl, rfl⟩
  · exact ⟨rfl, rfl, rfl, rfl, rfl, rfl, rfl, rfl, rfl, rfl, rfl⟩

theorem releaseLots_upstream (lots : Quad Bool) (s : State) : SameUpstream s (releaseLots lots s) :=
  .foldl _ (fun s i => lowerInFlight_upstream i s) _ s

theorem waiterService_upstream (s : State) : SameUpstream s (waiterService s) := by
  unfold waiterService
  split <;> exact ⟨rfl, rfl, rfl, rfl, rfl, rfl, rfl, rfl, rfl, rfl, rfl⟩

/-! ### Stamps -/

theorem armingCheck_upstream (h : Fin 4) (s : State) : SameUpstream s (armingCheck h s) := by
  unfold armingCheck
  split
  · split <;> exact ⟨rfl, rfl, rfl, rfl, rfl, rfl, rfl, rfl, rfl, rfl, rfl⟩
  · split
    · split <;> exact ⟨rfl, rfl, rfl, rfl, rfl, rfl, rfl, rfl, rfl, rfl, rfl⟩
    · exact .refl s
  all_goals exact .refl s

theorem takeFromHand_upstream (tag : Tag) (o : Order) (s : State) : SameUpstream s (takeFromHand tag o s) := by
  unfold takeFromHand
  simp only
  split <;> exact ⟨rfl, rfl, rfl, rfl, rfl, rfl, rfl, rfl, rfl, rfl, rfl⟩

theorem missOrder_upstream (tag : Tag) (lane : Fin 4) (o : Order) (s : State) :
    SameUpstream s (missOrder tag lane o s) := by
  unfold missOrder
  refine SameUpstream.trans ?_ (takeFromHand_upstream _ _ _)
  exact ⟨rfl, rfl, rfl, rfl, rfl, rfl, rfl, rfl, rfl, rfl, rfl⟩

theorem fireIfDue_upstream (h : Fin 4) (s : State) : SameUpstream s (fireIfDue h s) := by
  unfold fireIfDue
  split <;> exact ⟨rfl, rfl, rfl, rfl, rfl, rfl, rfl, rfl, rfl, rfl, rfl⟩

theorem stampAdvance_upstream (h : Fin 4) (s : State) : SameUpstream s (stampAdvance h s) := by
  unfold stampAdvance
  simp only
  split
  · exact fireIfDue_upstream h s
  · refine (fireIfDue_upstream h s).trans (.trans ?_ (armingCheck_upstream _ _))
    exact .foldl _ (fun s x => missOrder_upstream _ _ _ s) _ _

theorem settle_upstream (e : Entry) (s : State) : SameUpstream s (settle e s).2.2 := by
  unfold settle
  split
  · exact .refl s
  · split
    · exact .refl s
    · exact .refl s
    · exact .refl s
    · exact ⟨rfl, rfl, rfl, rfl, rfl, rfl, rfl, rfl, rfl, rfl, rfl⟩
    all_goals
      refine SameUpstream.trans ?_ (armingCheck_upstream _ _)
      refine SameUpstream.trans ?_ (takeFromHand_upstream _ _ _)
      exact submit_upstream _ s

theorem acceptReady_upstream (h : Fin 4) (tag : Tag) (s : State) : SameUpstream s (acceptReady h tag s) := by
  unfold acceptReady
  simp only
  split
  · split
    · exact ⟨rfl, rfl, rfl, rfl, rfl, rfl, rfl, rfl, rfl, rfl, rfl⟩
    · split
      · exact ⟨rfl, rfl, rfl, rfl, rfl, rfl, rfl, rfl, rfl, rfl, rfl⟩
      · refine SameUpstream.trans ?_ (armingCheck_upstream _ _)
        exact ⟨rfl, rfl, rfl, rfl, rfl, rfl, rfl, rfl, rfl, rfl, rfl⟩
  · exact .refl s

theorem acceptDone_upstream (h : Fin 4) (tag : Tag) (s : State) : SameUpstream s (acceptDone h tag s) := by
  unfold acceptDone
  simp only
  split
  · refine SameUpstream.trans ?_ (armingCheck_upstream _ _)
    split <;> exact ⟨rfl, rfl, rfl, rfl, rfl, rfl, rfl, rfl, rfl, rfl, rfl⟩
  · exact .refl s

theorem headFault_upstream (h : Fin 4) (cause : HeadCause) (s : State) :
    SameUpstream s (headFault h cause s) := by
  unfold headFault
  simp only
  split <;> exact ⟨rfl, rfl, rfl, rfl, rfl, rfl, rfl, rfl, rfl, rfl, rfl⟩

theorem acceptFault_upstream (h : Fin 4) (tag : Tag) (cause : Byte) (s : State) :
    SameUpstream s (acceptFault h tag cause s) := by
  unfold acceptFault
  simp only
  split
  · exact headFault_upstream _ _ _
  · exact .refl s

/-! ### Transit -/

theorem tallyFate_upstream (fate : Fate) (e : Entry) (flags : FlagSet) (s : State) :
    SameUpstream s (tallyFate fate e flags s) := by
  unfold tallyFate
  split
  · refine (tallyPack_upstream e.lane e.figure e.area s).trans ?_
    exact ⟨rfl, rfl, rfl, rfl, rfl, rfl, rfl, rfl, rfl, rfl, rfl⟩
  · split <;> exact ⟨rfl, rfl, rfl, rfl, rfl, rfl, rfl, rfl, rfl, rfl, rfl⟩
  all_goals exact .refl s

theorem pulseGate_upstream (lane : Fin 4) (s : State) : SameUpstream s (pulseGate lane s) :=
  ⟨rfl, rfl, rfl, rfl, rfl, rfl, rfl, rfl, rfl, rfl, rfl⟩

theorem dropEntry_upstream (e : Entry) (s : State) : SameUpstream s (dropEntry e s) := by
  have h := settle_upstream e s
  unfold dropEntry
  generalize settle e s = x at h
  obtain ⟨outcome, flags, settled⟩ := x
  generalize hd : decideFate e.lane flags settled = y
  obtain ⟨fate, flags'⟩ := y
  simp only [hd]
  refine SameUpstream.trans ?_ (submit_upstream _ _)
  have h' := (h.trans (tallyFate_upstream fate e flags' settled)).trans (releaseLots_upstream e.lots _)
  split
  · exact h'.trans (pulseGate_upstream _ _)
  · exact h'

theorem dropReached_upstream (n : Nat) (s : State) : SameUpstream s (dropReached n s) := by
  induction n generalizing s with
  | zero => exact .refl s
  | succ n ih =>
    unfold dropReached
    split
    · exact .refl s
    · split
      · refine SameUpstream.trans ?_ (ih _)
        refine SameUpstream.trans ?_ (dropEntry_upstream _ _)
        exact ⟨rfl, rfl, rfl, rfl, rfl, rfl, rfl, rfl, rfl, rfl, rfl⟩
      · exact .refl s

theorem reportLateClose_upstream (e : Entry) (s : State) : SameUpstream s (reportLateClose e s) := by
  unfold reportLateClose
  split
  · exact .refl s
  · split <;> exact ⟨rfl, rfl, rfl, rfl, rfl, rfl, rfl, rfl, rfl, rfl, rfl⟩

theorem checkNewOrder_upstream (e : Entry) (s : State) : SameUpstream s (checkNewOrder e s) := by
  unfold checkNewOrder
  split
  · exact .refl s
  · split
    · exact armingCheck_upstream _ _
    · exact .refl s

theorem insertHide_upstream (m : ClosedHide) (lane : Fin 4) (s : State) :
    SameUpstream s (insertHide m lane s) := by
  unfold insertHide
  have h : SameUpstream s (reportLateClose (newEntry m lane s) (raiseInFlight (newEntry m lane s).lots s)) := by
    refine SameUpstream.trans ?_ (reportLateClose_upstream _ _)
    exact ⟨rfl, rfl, rfl, rfl, rfl, rfl, rfl, rfl, rfl, rfl, rfl⟩
  simp only
  split
  · exact (h.trans (dropEntry_upstream _ _)).trans (checkNewOrder_upstream _ _)
  · refine SameUpstream.trans ?_ (checkNewOrder_upstream _ _)
    refine h.trans ?_
    exact ⟨rfl, rfl, rfl, rfl, rfl, rfl, rfl, rfl, rfl, rfl, rfl⟩

theorem transitTakes_upstream (m : ClosedHide) (s : State) : SameUpstream s (transitTakes m s) := by
  unfold transitTakes
  split
  · exact submit_upstream _ _
  · split
    · exact (occurrence_upstream _ _ _).trans (submit_upstream _ _)
    · exact insertHide_upstream _ _ _

/-! ### Closed hides and lines -/

/-- t is s but for what the closing of hides writes: the gain among the settings, the calibration request, and the
output chain with the report queue. -/
structure SameMeasuring (s t : State) : Prop where
  pins : t.pins = s.pins
  settings : ∃ g, t.settings = { s.settings with gain := g }
  tcu : t.tcu = s.tcu
  slr : t.slr = s.slr
  lcn : t.lcn = s.lcn
  htk : t.htk = s.htk
  mdc : t.mdc = s.mdc
  cml : t.cml = s.cml
  openChoices : t.openChoices = s.openChoices
  pending : t.pending = s.pending
  cal : s.cal = .none → t.cal = .none ∧ t.settings = s.settings

theorem SameUpstream.measuring {s t : State} (h : SameUpstream s t) : SameMeasuring s t :=
  ⟨h.pins, ⟨s.settings.gain, h.settings⟩, h.tcu, h.slr, h.lcn, h.htk, h.mdc, h.cml, h.openChoices, h.pending,
    fun hc => ⟨h.cal.trans hc, h.settings⟩⟩

theorem SameMeasuring.refl (s : State) : SameMeasuring s s := (SameUpstream.refl s).measuring

theorem SameMeasuring.trans {s t u : State} (a : SameMeasuring s t) (b : SameMeasuring t u) : SameMeasuring s u := by
  obtain ⟨g, hg⟩ := a.settings
  obtain ⟨g', hg'⟩ := b.settings
  exact ⟨b.pins.trans a.pins, ⟨g', by rw [hg', hg]⟩, b.tcu.trans a.tcu, b.slr.trans a.slr, b.lcn.trans a.lcn,
    b.htk.trans a.htk, b.mdc.trans a.mdc, b.cml.trans a.cml, b.openChoices.trans a.openChoices,
    b.pending.trans a.pending, fun hc =>
      ⟨(b.cal (a.cal hc).1).1, (b.cal (a.cal hc).1).2.trans (a.cal hc).2⟩⟩

/-- A hide offered while no calibration is WAITING changes nothing (R65). -/
theorem offerHide_none (tag : Tag) (raw : Nat) (flags : FlagSet) {s : State} (h : ∀ a, s.cal ≠ .waiting a) :
    offerHide tag raw flags s = (flags, s) := by
  unfold offerHide
  split
  · rename_i a ha
    exact absurd ha (h a)
  · rfl
  · rfl

theorem judgeReference_measuring (tag : Tag) (aRef raw : Nat) (flags : FlagSet) {s : State}
    (h : s.cal = .waiting aRef) : SameMeasuring s (judgeReference tag aRef raw flags s) := by
  have hc : s.cal ≠ .none := by rw [h]; exact fun h => CalState.noConfusion h
  unfold judgeReference
  simp only
  split
  · exact ⟨rfl, ⟨_, rfl⟩, rfl, rfl, rfl, rfl, rfl, rfl, rfl, rfl, fun hn => absurd hn hc⟩
  · split
    · exact ⟨rfl, ⟨_, rfl⟩, rfl, rfl, rfl, rfl, rfl, rfl, rfl, rfl, fun hn => absurd hn hc⟩
    · exact ⟨rfl, ⟨_, rfl⟩, rfl, rfl, rfl, rfl, rfl, rfl, rfl, rfl, fun hn => absurd hn hc⟩

theorem offerHide_measuring (tag : Tag) (raw : Nat) (flags : FlagSet) (s : State) :
    SameMeasuring s (offerHide tag raw flags s).2 := by
  unfold offerHide
  split
  · rename_i a ha
    split
    · exact judgeReference_measuring _ _ _ _ ha
    · exact .refl s
  all_goals exact .refl s

theorem areaTakes_measuring (h : Hide) (s : State) : SameMeasuring s (areaTakes h s) := by
  unfold areaTakes
  exact (offerHide_measuring _ _ _ s).trans (transitTakes_upstream _ _).measuring

theorem handOnAll_measuring (hides : List Hide) (s : State) : SameMeasuring s (handOnAll hides s) := by
  unfold handOnAll
  induction hides generalizing s with
  | nil => exact .refl s
  | cons h hs ih => exact (areaTakes_measuring h s).trans (ih _)

theorem reportTableFull_upstream (line : Count) (o : LineOutcome) (s : State) :
    SameUpstream s (reportTableFull line o s) := by
  unfold reportTableFull
  split
  · exact .refl s
  · exact occurrence_upstream _ _ _

/-- A run list is discarded while the tracking mark is clear (R38). -/
theorem trackLine_untracked (line pos : Count) (runs : List Run) {s : State} (h : s.htk.tracking = false) :
    trackLine line pos runs s = s := by
  simp [trackLine, h]

/-- A run list taken leaves the Hide Tracker as its line outcome says, and all but the closing of hides writes as it
was (R38). -/
theorem trackLine_tracked (line pos : Count) (runs : List Run) {s : State} (h : s.htk.tracking = true) :
    SameMeasuring
      { s with htk := { s.htk with
          table := (lineOutcome (lineInput line pos runs s) s.htk).staying
          nextTag := (lineOutcome (lineInput line pos runs s) s.htk).nextTag
          shadow := (lineOutcome (lineInput line pos runs s) s.htk).shadow
          line := line } }
      (trackLine line pos runs s) := by
  simp only [trackLine, h, if_true]
  exact (reportTableFull_upstream _ _ _).measuring.trans (handOnAll_measuring _ _)

/-- A close-all empties the table and the shadow list and clears the tracking mark (R55). -/
theorem closeAll_measuring (flags : FlagSet) (s : State) :
    SameMeasuring { s with htk := { s.htk with table := [], shadow := [], tracking := false } }
      (closeAll flags s) := handOnAll_measuring _ _

end Sys2Proof.Machine
end

