-- ==== Sys2Proof/Laws/Link.lean ====
section
/-! SUPPORT. The chain that hides are handed on through neither reads nor writes the Command Link: what it does is
the same whatever request is in hand. -/

namespace Sys2Proof.Machine

/-- The state with this Command Link. -/
def State.withLink (k : Cml) (s : State) : State := { s with cml := k }

/-- The operation neither reads nor writes the Command Link. -/
def FreeOfLink (f : State → State) : Prop := ∀ (k : Cml) (s : State), f (s.withLink k) = (f s).withLink k

/-- A fold of operations that leave the link alone leaves it alone. -/
theorem FreeOfLink.foldl {α : Type} {f : State → α → State}
    (hf : ∀ (a : α) (k : Cml) (s : State), f (s.withLink k) a = (f s a).withLink k) (l : List α) :
    FreeOfLink (fun s => l.foldl f s) := by
  intro k s
  induction l generalizing s with
  | nil => rfl
  | cons a l ih =>
    simp only [List.foldl_cons] at ih ⊢
    rw [hf a k s, ih]

theorem occurrence_link (kind : OneShotKind) (r : Record) : FreeOfLink (occurrence kind r) := by
  intro k s
  simp only [occurrence, apply_ite (State.withLink k)]
  rfl

theorem closePack_link (lane : Fin 4) (cause : CloseCause) : FreeOfLink (closePack lane cause) := by
  intro k s
  simp only [closePack, apply_ite (State.withLink k)]
  rfl

theorem closeLot_link (slot : Fin 4) : FreeOfLink (closeLot slot) := by
  intro k s
  simp only [closeLot, apply_ite (State.withLink k)]
  rfl

theorem targetCheck_link (lane : Fin 4) : FreeOfLink (targetCheck lane) := by
  intro k s
  simp only [targetCheck, apply_ite (State.withLink k), ← closePack_link lane .target k s]
  rfl

theorem lowerInFlight_link (slot : Fin 4) : FreeOfLink (lowerInFlight slot) := by
  intro k s
  simp only [lowerInFlight, apply_ite (State.withLink k), ← closeLot_link slot k]
  rfl

theorem releaseLots_link (lots : Quad Bool) : FreeOfLink (releaseLots lots) :=
  .foldl lowerInFlight_link _

theorem tallyPack_link (lane : Fin 4) (figure area : Nat) : FreeOfLink (tallyPack lane figure area) := by
  intro k s
  simp only [tallyPack, ← targetCheck_link lane k]
  rfl

theorem tallyFate_link (fate : Fate) (e : Entry) (flags : FlagSet) : FreeOfLink (tallyFate fate e flags) := by
  intro k s
  cases fate <;> simp only [tallyFate]
  case pack =>
    rw [tallyPack_link]
    rfl
  case scrap =>
    simp only [apply_ite (State.withLink k)]
    rfl

theorem armingCheck_link (h : Fin 4) : FreeOfLink (armingCheck h) := by
  intro k s
  have hc : (s.withLink k).stc = s.stc := rfl
  have ht : (s.withLink k).tru = s.tru := rfl
  have ho : orderInHand h (s.withLink k) = orderInHand h s := rfl
  unfold armingCheck
  rw [hc, ht, ho]
  cases (s.stc.get h).state <;> simp only
  · cases earliest (waitingOrders h s.tru.transit) <;> rfl
  · cases earliest (waitingOrders h s.tru.transit) <;> cases orderInHand h s <;> simp only
    simp only [apply_ite (State.withLink k)]
    rfl

theorem takeFromHand_link (tag : Tag) (o : Order) : FreeOfLink (takeFromHand tag o) := by
  intro k s
  simp only [takeFromHand, apply_ite (State.withLink k)]
  rfl

theorem settle_link (e : Entry) (k : Cml) (s : State) :
    settle e (s.withLink k) = ((settle e s).1, (settle e s).2.1, (settle e s).2.2.withLink k) := by
  have miss (o : Order) (r : Record) :
      armingCheck o.head (takeFromHand e.tag o (submit r (s.withLink k)))
        = (armingCheck o.head (takeFromHand e.tag o (submit r s))).withLink k := by
    rw [← armingCheck_link, ← takeFromHand_link]
    rfl
  unfold settle
  cases e.stamp with
  | none => rfl
  | some o =>
    cases ho : o.state <;> simp only [ho, ← miss] <;> rfl

theorem dropEntry_link (e : Entry) : FreeOfLink (dropEntry e) := by
  intro k s
  unfold dropEntry
  rw [settle_link]
  generalize settle e s = x
  obtain ⟨outcome, flags, settled⟩ := x
  have hd : decideFate e.lane flags (settled.withLink k) = decideFate e.lane flags settled := rfl
  simp only [hd]
  generalize decideFate e.lane flags settled = y
  obtain ⟨fate, flags'⟩ := y
  simp only [tallyFate_link fate e flags' k, releaseLots_link e.lots k]
  split <;> rfl

theorem reportLateClose_link (e : Entry) : FreeOfLink (reportLateClose e) := by
  intro k s
  unfold reportLateClose
  cases e.stamp with
  | none => rfl
  | some o =>
    simp only [apply_ite (State.withLink k)]
    rfl

theorem checkNewOrder_link (e : Entry) : FreeOfLink (checkNewOrder e) := by
  intro k s
  unfold checkNewOrder
  cases e.stamp with
  | none => rfl
  | some o => simp only [apply_ite (State.withLink k), armingCheck_link o.head k]

theorem insertHide_link (m : ClosedHide) (lane : Fin 4) : FreeOfLink (insertHide m lane) := by
  intro k s
  have he : newEntry m lane (s.withLink k) = newEntry m lane s := rfl
  have hr (e : Entry) : raiseInFlight e.lots (s.withLink k) = (raiseInFlight e.lots s).withLink k := rfl
  simp only [insertHide, he, hr, reportLateClose_link _ k, dropEntry_link _ k, apply_ite (State.withLink k),
    ← checkNewOrder_link _ k]
  rfl

theorem transitTakes_link (m : ClosedHide) : FreeOfLink (transitTakes m) := by
  intro k s
  unfold transitTakes
  cases m.lane with
  | none => rfl
  | some lane =>
    simp only [apply_ite (State.withLink k), ← insertHide_link m lane k]
    have ho (r : Record) := occurrence_link .transitFull r k s
    congr 1
    exact congrArg (submit _) (ho _)

theorem offerHide_link (tag : Tag) (raw : Nat) (flags : FlagSet) (k : Cml) (s : State) :
    offerHide tag raw flags (s.withLink k)
      = ((offerHide tag raw flags s).1, (offerHide tag raw flags s).2.withLink k) := by
  have hj (aRef : Nat) (f : FlagSet) :
      judgeReference tag aRef raw f (s.withLink k) = (judgeReference tag aRef raw f s).withLink k := by
    simp only [judgeReference, apply_ite (State.withLink k)]
    rfl
  have hc : (s.withLink k).cal = s.cal := rfl
  unfold offerHide
  rw [hc]
  cases s.cal <;> simp only
  rw [hj]
  have hs : (s.withLink k).settings = s.settings := rfl
  rw [hs]
  split <;> rfl

theorem areaTakes_link (h : Hide) : FreeOfLink (areaTakes h) := by
  intro k s
  have hs : (s.withLink k).settings = s.settings := rfl
  simp only [areaTakes, hs, offerHide_link, ← transitTakes_link _ k]
  rfl

/-- Hides are handed on alike whatever the Command Link holds. -/
theorem handOnAll_link (hides : List Hide) : FreeOfLink (handOnAll hides) := .foldl areaTakes_link _

end Sys2Proof.Machine
end

