-- ==== Sys2Proof/Laws/Chain.lean ====
section
/-! SUPPORT. A line taken and the end of measuring, as the shapes of Safety.lean give them: the model's own chains
of operations equal them, and statements about a line, a scan loss, PAUSE, STOP or a fault cite these. -/

namespace Sys2Proof.Machine

/-- The Hide Tracker takes a run list as State.lineTaken says (R38). -/
theorem trackLine_eq_lineTaken (line pos : Count) (runs : List Run) (s : State) :
    trackLine line pos runs s = s.lineTaken line pos runs := by
  unfold State.lineTaken trackLine lineInput
  simp only
  generalize lineOutcome _ s.htk = o
  obtain ⟨staying, closing, nextTag, shadow, notOpened⟩ := o
  cases notOpened with
  | nil => simp [reportTableFull]
  | cons r rest =>
    simp only [reportTableFull, reduceCtorEq, if_false, occurrence, Rpq.oneShot, Rpq.setOneShot, keptInShadow, bump,
      Config.counterTop]
    congr 2
    split <;> rename_i h <;> simp [h]

/-- A line taken writes the Hide Tracker and what the closing of hides writes, and nothing else (R38, R54). -/
theorem lineTaken_measuring (line pos : Count) (runs : List Run) (s : State) :
    ∃ htk, SameMeasuring { s with htk := htk } (s.lineTaken line pos runs) := by
  rw [← trackLine_eq_lineTaken]
  cases h : s.htk.tracking
  · exact ⟨s.htk, by rw [trackLine_untracked line pos runs h]; exact .refl s⟩
  · exact ⟨_, trackLine_tracked line pos runs h⟩

/-- While no calibration is WAITING the hand-on of hides leaves the settings and the calibration alone (R65). -/
theorem handOnAll_settled (hides : List Hide) (s : State) (h : ∀ a, s.cal ≠ .waiting a) :
    (handOnAll hides s).settings = s.settings ∧ (handOnAll hides s).cal = s.cal := by
  unfold handOnAll
  induction hides generalizing s with
  | nil => exact ⟨rfl, rfl⟩
  | cons x hs ih =>
    have hx : SameUpstream s (areaTakes x s) := by
      unfold areaTakes
      simp only [offerHide_none _ _ _ h]
      exact transitTakes_upstream _ _
    obtain ⟨hset, hcal⟩ := ih (areaTakes x s) (by rw [hx.cal]; exact h)
    exact ⟨hset.trans hx.settings, hcal.trans hx.cal⟩

/-- STOP or a FAULT entry ends a calibration: a WAITING one with its ABORTED record (R82, R84). -/
theorem abortCalibration_eq (s : State) : abortCalibration s = { s with
    cal := .none
    rpq := match s.cal with
      | .waiting aRef => s.rpq.offer s.settings (.calResult .aborted 0#16 aRef 0 0#16 s.settings.gain 0)
      | .none | .ending => s.rpq } := by
  unfold abortCalibration
  split <;> rename_i h <;> simp [h, reportCalibration, submit]

/-- A change of the measuring state that ends measuring leaves the state that State.measuringEnded gives, from the
state in which a calibration of CALIBRATE has been ended (R12, R55, R84, R176, R178). -/
theorem changeMode_endMeasuring (flags : FlagSet) (m : Mode) (f : FaultCause) (c : ModeCause) (s : State)
    (hs : s.mdc.mode.watched = true) (hm : m.scans = false) :
    changeMode m f c s.htk.table.length (endMeasuring flags s)
      = (if s.mdc.mode = .calibrate then abortCalibration s else s).measuringEnded flags m f c := by
  have scan (a : State) (ha : a.mdc = s.mdc) : (if s.mdc.mode.scans = true then scanEnd a else a)
      = { a with
          slr := if a.mdc.mode = .pause then a.slr
            else { a.slr with scanning := false, outstanding := none, gathered := [] } } := by
    have hh : a.mdc.mode = s.mdc.mode := by rw [ha]
    rw [← hh] at hs ⊢
    revert hs
    cases a.mdc.mode <;> simp [Mode.watched, Mode.scans, scanEnd]
  have kept (a : State) (ha : a = if s.mdc.mode = .calibrate then abortCalibration s else s) :
      a.mdc = s.mdc ∧ a.htk = s.htk ∧ a.tcu = s.tcu := by
    rw [ha]
    split
    · rw [abortCalibration_eq]
      exact ⟨rfl, rfl, rfl⟩
    · exact ⟨rfl, rfl, rfl⟩
  unfold endMeasuring closeAll State.measuringEnded
  simp only
  generalize ha : (if s.mdc.mode = .calibrate then abortCalibration s else s) = a
  obtain ⟨hmdc, hhtk, -⟩ := kept a ha.symm
  rw [scan a hmdc, hhtk]
  generalize hb : ({ a with
    slr := if a.mdc.mode = .pause then a.slr
      else { a.slr with scanning := false, outstanding := none, gathered := [] }
    htk := { s.htk with table := [], shadow := [], tracking := false } } : State) = b
  have h := handOnAll_measuring (closingHides flags s.htk.table) b
  generalize handOnAll (closingHides flags s.htk.table) b = u at h
  have hu : u.mdc = a.mdc ∧ u.tcu = a.tcu ∧ u.pins = a.pins ∧ ∃ g, u.settings = { a.settings with gain := g } := by
    subst hb
    exact ⟨h.mdc, h.tcu, h.pins, h.settings⟩
  obtain ⟨h1, h2, h3, g, h4⟩ := hu
  have timer : freshStallTimer m a.pins.beltRun u.settings.stallTime
      = if m = .pause ∧ a.pins.beltRun = true then some a.settings.stallTime else none := by
    rw [h4]
    cases m <;> simp_all [freshStallTimer, Mode.watched, Mode.scans]
  simp only [changeMode, enterMode, submit, h1, h2, h3, timer]
  rfl

/-- Measuring ends alike whatever the Command Link holds. -/
theorem measuringEnded_link (flags : FlagSet) (m : Mode) (f : FaultCause) (c : ModeCause) (k : Cml) (s : State) :
    (s.withLink k).measuringEnded flags m f c = (s.measuringEnded flags m f c).withLink k := by
  have h := handOnAll_link (closingHides flags s.htk.table) k { s with
    slr := if s.mdc.mode = .pause then s.slr
      else { s.slr with scanning := false, outstanding := none, gathered := [] }
    htk := { s.htk with table := [], shadow := [], tracking := false } }
  have hw : handOnAll (closingHides flags (s.withLink k).htk.table)
      { s.withLink k with
        slr := if (s.withLink k).mdc.mode = .pause then (s.withLink k).slr
          else { (s.withLink k).slr with scanning := false, outstanding := none, gathered := [] }
        htk := { (s.withLink k).htk with table := [], shadow := [], tracking := false } } = _ := h
  unfold State.measuringEnded
  simp only [hw]
  rfl

end Sys2Proof.Machine
end

