-- ==== Sys2Proof/Tests/Slice0.lean ====
section
/-! SUPPORT. Tests: ill-formed commands that the check refuses, examples of the manual run through one command each,
and, for every statement with hypotheses, a state and operands that meet them, clause by clause. Expected results come
from the manual's own examples and tables, or from its formulas by hand. -/

namespace Sys2Proof.Tests

open Sys2Proof Sys2Proof.Machine

/-! The theorems of this file are evaluated one after another: many kernel evaluations at once, each in a thread of its
own, would fill the memory a check may use. -/
set_option Elab.async false

/-! ### Well-formedness -/

theorem test_wf_lineFrame_needs_start : (Instr.lineFrame [0x00#8, 0x5A#8]).wf = false := by decide +kernel
theorem test_wf_lineFrame_empty : (Instr.lineFrame []).wf = false := by decide +kernel
theorem test_wf_lineFrame_ok : (Instr.lineFrame [0x5A#8]).wf = true := by decide +kernel
theorem test_wf_unknown_names_request : (Instr.requestUnknown 1 0x18 []).wf = false := by decide +kernel
theorem test_wf_unknown_too_long : (Instr.requestUnknown 1 0x19 (List.replicate 249 0)).wf = false := by decide +kernel
theorem test_wf_unknown_ok : (Instr.requestUnknown 1 0x00 (List.replicate 248 0)).wf = true := by decide +kernel
theorem test_wf_widths_too_long : (Instr.widthsLoad 1 0 (List.replicate 123 0)).wf = false := by decide +kernel
theorem test_wf_widths_ok : (Instr.widthsLoad 1 0 (List.replicate 122 0)).wf = true := by decide +kernel

/-- The table gives no row bits, so no word spells a command. -/
theorem test_no_word_spells_a_command : decodeTableWord 8 0xA5 = none := rfl

/-! ### Small states -/

/-- RUN at HWM 19, one count before line 0 of a grid whose origin is 20. -/
def running : State :=
  { State.reset with
    mdc := ⟨.run, .none⟩
    tcu := ⟨19, 19, .forward, some ⟨20, 0, 20⟩, none⟩
    slr := { Slr.reset with scanning := true }
    htk := { Htk.reset with tracking := true } }

/-- RUN at HWM 39, one count before line 1, with line 0 still outstanding. -/
def awaiting : State :=
  { running with
    tcu := ⟨39, 39, .forward, some ⟨20, 1, 40⟩, none⟩
    slr := { running.slr with outstanding := some 0 } }

/-- A hide of 1 m² with tag 5 in lane 0, an order for head 0 and the drop position given. -/
def entryAt (drop : Count) (o : Option Order) : Entry :=
  { tag := 5, lane := 0, flags := 0, area := 1000000, figure := 43, unit := .quarterFoot, length := 500
    width := 400, fill := 0, pieces := 1, dropPos := drop, lots := Quad.const false, stamp := o }

/-- An order for head 0 with fire position 100 and a slip of 80 counts. -/
def order (st : OrderState) : Order := ⟨0, 100, 80, st, 10, some 3, .quarterFoot⟩

/-- HWM 90, the order of tag 5 in the state given, channel 0 in the state given with that tag in hand. -/
def printing (st : OrderState) (c : ChannelState) : State :=
  { State.reset with
    tcu := ⟨90, 90, .forward, none, none⟩
    tru := { Tru.reset with transit := [entryAt 5000 (some (order st))] }
    stc := (Quad.const Channel.reset).set 0 { Channel.reset with
      state := c, tag := some 5, armTimer := decide (c = .arming), printTimer := decide (c = .printing) } }

/-- The state at the HWM given. -/
def atHwm (x : Count) (s : State) : State := { s with tcu := { s.tcu with position := x, hwm := x } }

/-- What a field of the next state satisfies; false where there is no next state. -/
def after (c : Instr) (s : State) (p : State → Bool) : Bool :=
  match exec c s with
  | .next t => p t
  | .fault _ => false
  | .refused _ => false

/-- The reset state in the measuring state given. -/
def inMode (m : Mode) : State := { State.reset with mdc := ⟨m, if m = .fault then .stall else .none⟩ }

/-- RUN with belt-run asserted and the stall timer running towards 2000 ms. -/
def watched : State :=
  { running with pins := ⟨false, false, true, false⟩, tcu := { running.tcu with stallTimer := some 2000 } }

/-- The reset state with the pack of lane 0 as given and n tickets stored. -/
def packing (p : Pack) (n : Nat) : State :=
  { State.reset with
    tlu := { Tlu.reset with
      packs := Tlu.reset.packs.set 0 p
      tickets := List.replicate n ⟨.pack, 1, 1, 1, 1, 1, 0, 0, .host, false⟩ } }

/-- The reset state with the lot of slot 0 as given and n tickets stored. -/
def lotting (l : Lot) (n : Nat) : State :=
  { packing (Pack.fresh 1) n with
    tlu := { (packing (Pack.fresh 1) n).tlu with lots := Tlu.reset.lots.set 0 l } }

/-- The reset state with a request in hand and its reply begun, and the requests given behind it. -/
def replying (more : List Telegram) : State :=
  { State.reset with cml := { Cml.reset false with buffer := ⟨1, .maskList⟩ :: more, reply := some [0xA5#8] } }

/-- A closed hide in the lane and spot state given. -/
def closed (lane : Option (Fin 4)) (spot : SpotState) : ClosedHide :=
  { tag := 5, lane := lane, flags := 0, area := 1000000, figure := 43, unit := .quarterFoot, length := 500, width := 400
    fill := 0, pieces := 1, lastPos := 0, spot := spot, spotPos := 0 }

/-! ### Examples of the manual -/

/-- Section 4.10: the side of 2,108,400 mm² in each unit under each rounding. -/
theorem test_figures_of_the_worked_case :
    correctedArea (rawArea 420000000 5000) 100400 = 2108400
    ∧ unclampedFigure .quarterFoot .nearest 2108400 = 91 ∧ unclampedFigure .quarterFoot .down 2108400 = 90
    ∧ unclampedFigure .tenthFoot .nearest 2108400 = 227 ∧ unclampedFigure .tenthFoot .down 2108400 = 226
    ∧ unclampedFigure .decimetre .nearest 2108400 = 211 ∧ unclampedFigure .decimetre .down 2108400 = 210 := by
  decide +kernel

/-- Section 4.10: the length, width and fill figures of that side. -/
theorem test_dimensions_of_the_worked_case :
    (lengthFigure 1000 1351 5000, widthFigure (List.replicate 1024 3125) 250 769, fillFigure 187500 5000)
      = (1760, 1625, 938) := by decide +kernel

/-- Section 4.11: a carpet of leather is clamped to 9,999 tenths with OVER, and a scrap of 45,180 mm² is SMALL. -/
theorem test_figures_at_the_edges :
    saleFigure { Settings.reset with saleUnit := .tenthFoot } 131056000 0 = (9999, 0x0100#16)
    ∧ saleFigure Settings.reset 45180 0 = (0, 0x0080#16) := by decide +kernel

/-- Section 5.9: the board of 996,000 mm² against a reference of 1 m² gives the gain 100,402. -/
theorem test_gain_of_the_worked_case :
    calQuotient 1000000 (rawArea 199200000 5000) = 100402 ∧ correctedArea 996000 100402 = 1000004 := by decide +kernel

/-- Section 2.5: bridging and the minimum run on the example line. -/
theorem test_runs_of_the_worked_line :
    filterRuns 2 (bridgeRuns 1 [⟨100, 180⟩, ⟨182, 240⟩, ⟨250, 250⟩, ⟨299, 350⟩, ⟨641, 700⟩, ⟨703, 705⟩])
      = [⟨100, 240⟩, ⟨299, 350⟩, ⟨641, 700⟩, ⟨703, 705⟩] := by decide +kernel

/-- Section 2.5: masked cells 300 and 301 read covered between 299 and 302, and 640 reads uncovered beside 639. -/
theorem test_masked_cells_of_the_worked_line :
    let raw : Readings := BitVec.ofNat 1024 (2 ^ 299 + 2 ^ 302 + 2 ^ 640 + 2 ^ 641)
    [300, 301, 640, 641].map (effective [300, 301, 640] raw) = [true, true, false, true] := by decide +kernel

/-- R1, R209: the step from HWM 19 to 20, where line 0 lies, sends the line request 5A 00 with its CRC E1F0h. -/
theorem test_line_request_is_sent :
    after (.encoderStep true false) running (fun t =>
      decide (t.slr.sent = [[0x5A#8, 0x00#8, 0xE1#8, 0xF0#8]] ∧ t.slr.outstanding = some 0 ∧ t.tcu.hwm = 20)) = true := by
  decide +kernel

/-- R2: a backward step at depth 0 leaves the HWM and wraps the position below 0. -/
theorem test_step_back_wraps :
    after (.encoderStep false true) State.reset (fun t =>
      decide (t.tcu.position = 0xFFFFFFFF#32 ∧ t.tcu.hwm = 0 ∧ t.tcu.direction = .back)) = true := by decide +kernel

/-- R170: START in IDLE is answered with the state RUN; its reply is A5, length 4, kind with the top bit set. -/
theorem test_start_enters_run :
    after (.start 7) State.reset (fun t =>
      decide (t.mdc.mode = .run ∧ (t.cml.reply.getD []).take 6 = [0xA5#8, 4, 0x89, 7, 0, 1])) = true := by decide +kernel

/-- Section 9.1: PACK CLOSE of a pack of 3 hides stores its ticket, and the next pack has the next number. -/
theorem test_pack_close_renews :
    after (.packClose 1 0) (packing ⟨4, 3, 120, 2500000, 1, .opened, none⟩ 0) (fun t =>
      decide (t.tlu.packs.e0 = ⟨5, 0, 0, 0, 0, .opened, none⟩ ∧ t.tlu.changeLine.e0 = true
        ∧ t.tlu.tickets = [⟨.pack, 0, 4, 3, 120, 2500000, 1, 0, .host, false⟩])) = true := by decide +kernel

/-- R112: the armed order fires when the HWM reaches its fire position 100. -/
theorem test_fire_at_the_fire_position :
    after (.encoderStep true false) (atHwm 99 (printing .armed .armed)) (fun t =>
      decide ((t.stc.get 0).state = .printing ∧ (t.stc.get 0).printTimer = true)) = true := by decide +kernel

/-- R55, R178: PAUSE closes the open hide, which no lane takes, before the MODE record that counts it. -/
theorem test_pause_hands_on_its_hide :
    let open1 := openedHide ⟨0, 20, [], { Settings.reset with window := Quad.const ⟨false, 0, 0⟩ }, [], .run, []⟩ [] 9 ⟨3, 4, 0⟩
    let s := { running with
      settings := { Settings.reset with notice := 0 }, htk := { running.htk with table := [open1], tracking := true } }
    after (.pause 1) s (fun t => decide (t.htk.table = [] ∧ t.tru.transit = [] ∧ t.rpq.queue.length = 2
      ∧ t.rpq.queue.getLast? = some (.mode .run .pause .pause 19 0 1))) = true := by decide +kernel

/-! ### The hypotheses of each statement can be met, clause by clause -/

theorem witness_EncoderStepMovesTheBelt :
    let s := State.reset
    let deep := { s with tcu := ⟨1, 2147483648, .forward, none, none⟩ }
    let below := { s with tcu := ⟨0, 1, .forward, none, none⟩ }
    let turn (a b : Bool) := encoderPhase a b - encoderPhase s.pins.encoderA s.pins.encoderB
    s.pins.resetAsserted = false ∧ turn false false = 0 ∧ turn true true = 2 ∧ turn false true = 3 ∧ turn true false = 1
    ∧ (deep.tcu.hwm - deep.tcu.position).toNat = 2 ^ 31 - 1 ∧ (below.tcu.hwm - below.tcu.position).toNat ≠ 0
    ∧ (s.tcu.hwm - s.tcu.position).toNat = 0 ∧ s.nothingDue (s.tcu.hwm + 1) ∧ running.nothingDue 19
    ∧ ¬running.nothingDue 20 := by decide +kernel

theorem witness_LinePositionRequestsItsLine :
    let s := running
    s.pins.resetAsserted = false ∧ encoderPhase true false - encoderPhase s.pins.encoderA s.pins.encoderB = 1
    ∧ s.tcu.position = s.tcu.hwm ∧ s.mdc.mode.scans = true ∧ s.slr.scanning = true ∧ s.slr.outstanding = none
    ∧ s.tcu.grid = some ⟨20, 0, 20⟩ ∧ (20 : Count) = s.tcu.hwm + 1 ∧ s.noneDownstream (s.tcu.hwm + 1) := by
  decide +kernel

theorem witness_UnansweredLineIsHeldOrLosesTheScan :
    let s := awaiting
    let third := { s with slr := { s.slr with badCount := 2 } }
    let calibrating (c : CalState) : State := { third with mdc := ⟨.calibrate, .none⟩, cal := c }
    let later (u : State) : CalState := ({ u with slr := { u.slr with outstanding := none } }.lineTaken 0 20
      (runList u.settings u.lcn u.slr.lastGood)).cal
    s.pins.resetAsserted = false ∧ encoderPhase true false - encoderPhase s.pins.encoderA s.pins.encoderB = 1
    ∧ s.tcu.position = s.tcu.hwm ∧ s.mdc.mode.scans = true ∧ s.mdc.mode = .run ∧ s.slr.scanning = true
    ∧ s.slr.outstanding = some 0 ∧ s.tcu.grid = some ⟨20, 1, 40⟩
    ∧ (40 : Count) = s.tcu.hwm + 1 ∧ s.noneDownstream (s.tcu.hwm + 1)
    ∧ min (s.slr.badCount + 1) 15 < s.settings.badLimit
    ∧ third.settings.badLimit ≤ min (third.slr.badCount + 1) 15
    ∧ (calibrating .ending).mdc.mode.scans = true ∧ later (calibrating .ending) = .ending
    ∧ later (calibrating (.waiting 1000000)) ≠ .ending := by decide +kernel

/-- With no run on the line nothing closes and nothing is turned away. -/
theorem witness_UnansweredLine_nothing_closes (x : LineInput) (h : x.runs = []) :
    (lineOutcome x Htk.reset).closing = [] ∧ (lineOutcome x Htk.reset).notOpened = [] := by
  simp [lineOutcome, h, Htk.reset, mergedTable, sortBy]

theorem witness_BeltRunStartsAndStopsTheStallTimer :
    running.pins.resetAsserted = false ∧ running.pins.beltRun = false ∧ watched.pins.resetAsserted = false
    ∧ watched.pins.beltRun = true := by decide +kernel

theorem witness_StallTimerExpiryEntersFault :
    (State.reset.pins.resetAsserted = false ∧ State.reset.marksAgree ∧ State.reset.tcu.stallTimer = none)
    ∧ watched.pins.resetAsserted = false ∧ watched.marksAgree ∧ watched.tcu.stallTimer = some 2000
    ∧ watched.htk.table = [] ∧ watched.cal = .none := by decide +kernel

theorem witness_LineFrameIsAccepted :
    (awaiting.pins.resetAsserted = false ∧ awaiting.slr.outstanding = some 0 ∧ awaiting.tcu.grid = some ⟨20, 1, 40⟩
      ∧ awaiting.lcn.counters.length = 1024 ∧ awaiting.lcn.mask.Pairwise (· < ·))
    ∧ ∃ t, exec (.lineFrame (lineFrameOf ((0 : Count).extractLsb' 0 8) 0#1024)) awaiting = .next t :=
  ⟨by decide +kernel, _, rfl⟩

theorem witness_ScanLinkGathersLineFrames :
    let half := { awaiting with slr := { awaiting.slr with gathered := List.replicate 130 0x5A#8 } }
    (awaiting.pins.resetAsserted = false ∧ awaiting.slr.gathered = [])
    ∧ (half.pins.resetAsserted = false ∧ half.slr.gathered ≠ [] ∧ half.slr.gathered.length < 131)
    ∧ ((List.replicate 132 0x5A#8).length = 132 ∧ (List.replicate 132 0x5A#8).head? = some 0x5A#8)
    ∧ ∀ n cells, awaiting.slr.outstanding = some n → [] ≠ lineFrameOf (n.extractLsb' 0 8) cells :=
  ⟨by decide +kernel, by decide +kernel, by decide +kernel, fun _ _ _ h => nomatch h⟩

theorem witness_RunExtractionCoversTheCoveredCells : (List.replicate 1024 true).length = 1024 := List.length_replicate

theorem witness_MaskingAndTheRunList :
    (7 : Nat) ∉ [5]
    ∧ ((5 : Nat) ∈ [5] ∧ 4 < 5 ∧ 4 ∉ [5] ∧ (∀ j, 4 < j → j < 5 → j ∈ [5]) ∧ 6 < 1024 ∧ 6 ∉ [5]
      ∧ ∀ j, 5 < j → j < 6 → j ∈ [5])
    ∧ ((0 : Nat) ∈ [0] ∧ (∀ j, j < 0 → j ∈ [0]) ∧ 1 < 1024 ∧ 1 ∉ [0] ∧ ∀ j, 0 < j → j < 1 → j ∈ [0])
    ∧ ((1023 : Nat) ∈ [1023] ∧ (∀ j, 1023 < j → j < 1024 → j ∈ [1023]) ∧ 1022 ∉ [1023]
      ∧ ∀ j, 1022 < j → j < 1023 → j ∈ [1023]) :=
  ⟨by decide, ⟨by decide, by decide, by decide, by omega, by decide, by decide, by omega⟩,
    ⟨by decide, by omega, by decide, by decide, by omega⟩, ⟨by decide, by omega, by decide, by omega⟩⟩

/-- A line of 256 stretches of two cells has more than 64 runs, and an uncovered line none. -/
theorem witness_MaskingAndTheRunList_lengths :
    let kept (raw : Readings) := (bridgeRuns 1 (extractRuns (effectiveList [] raw) 0 none)).filter
      (fun t : Span => decide (2 ≤ t.last - t.first + 1))
    64 < (kept (BitVec.ofNat 1024 ((2 ^ 1024 - 1) / 15 * 3))).length ∧ (kept 0#1024).length ≤ 64 := by decide +kernel

theorem witness_WidthsLoadAndRead :
    let s := State.reset
    let ws := List.replicate 60 8000#16
    s.listening ∧ s.mdc.mode = .idle ∧ s.htk.table = [] ∧ s.lcn.widths.length = 1024
    ∧ (1 ≤ ws.length ∧ ws.length ≤ 60 ∧ (964#16).toNat + ws.length ≤ 1024
      ∧ ∀ w ∈ ws, 1000 ≤ w.toNat ∧ w.toNat ≤ 8000)
    ∧ ¬((965#16).toNat + ws.length ≤ 1024) ∧ ¬(1000 ≤ (999#16).toNat)
    ∧ (inMode .run).listening ∧ (inMode .run).mdc.mode ≠ .idle
    ∧ (1 ≤ (60#8).toNat ∧ (60#8).toNat ≤ 60 ∧ (964#16).toNat + (60#8).toNat ≤ 1024) ∧ ¬(1 ≤ (0#8).toNat) := by
  refine ⟨by decide +kernel, rfl, rfl, List.length_replicate, ?_, by simp, by decide, by decide +kernel,
    by decide +kernel, by decide, by decide⟩
  refine ⟨by simp, by simp, by simp, fun w h => ?_⟩
  rw [List.eq_of_mem_replicate h]
  decide

theorem witness_MaskRequests :
    let s := State.reset
    let one := { s with lcn := { s.lcn with mask := [1023] } }
    let full := { s with lcn := { s.lcn with mask := List.range 32 } }
    (s.listening ∧ s.mdc.mode = .idle ∧ 1023 < (1024#16).toNat)
    ∧ ((inMode .run).listening ∧ (inMode .run).mdc.mode ≠ .idle)
    ∧ (one.listening ∧ one.mdc.mode = .idle ∧ (1023#16).toNat ≤ 1023 ∧ (1023#16).toNat ∈ one.lcn.mask)
    ∧ (s.lcn.mask.length < 32 ∧ (1023#16).toNat ∉ s.lcn.mask ∧ one.lcn.mask.Pairwise (· < ·))
    ∧ (full.listening ∧ full.mdc.mode = .idle ∧ 32 ≤ full.lcn.mask.length ∧ (32#16).toNat ∉ full.lcn.mask) := by
  decide +kernel

/-- A table of n hides, and openings that have made it. -/
def openings (n : Nat) : Openings := ⟨(List.range n).map (fun k => openedHide
  ⟨0, 0, [], Settings.reset, [], .run, []⟩ [] (BitVec.ofNat 16 (k + 1)) ⟨k, k, 0⟩), 20#16, [], []⟩

theorem witness_UnmatchedRunOpensAHide :
    16 ≤ (openings 16).table.length
    ∧ (openings 15).table.length < 16 ∧ (openings 15).nextTag ≠ 0#16
    ∧ (List.replicate 24 7#16).length ≤ 24 ∧ (openings 15).nextTag ∉ List.replicate 24 7#16
    ∧ (∀ b ∈ (openings 15).table, b.tag ≠ (openings 15).nextTag)
    ∧ ({ openings 15 with nextTag := 0xFFFF#16 }.nextTag ∈ [0xFFFF#16, 16#16] ∧ [0xFFFF#16, 16#16].length ≤ 24)
    ∧ (∀ u ∈ ([⟨0, 3⟩, ⟨3, 5⟩, ⟨7, 7⟩] : List Span), u.first ≤ u.last)
    ∧ shadowList [⟨7, 7⟩, ⟨0, 3⟩, ⟨3, 5⟩] = [⟨0, 5⟩, ⟨7, 7⟩] := by decide +kernel

/-- The counter stands at 65535, which is held with 1 to 16: the hide is given 17 (R36). -/
theorem test_first_free_tag :
    let o := placeRun ⟨0, 0, [], Settings.reset, [], .run, [0xFFFF#16, 16#16]⟩ []
      { openings 15 with nextTag := 0xFFFF#16 } (⟨7, 9, 9375⟩, none)
    o.table.getLast?.map (fun h => h.tag) = some 17#16 ∧ o.nextTag = 18#16 := by decide +kernel

theorem witness_LineStepsAHide :
    ([⟨0, 5, 18750⟩] : List Run).length ≤ 8 ∧ 8 < (List.replicate 9 (⟨0, 5, 18750⟩ : Run)).length := by decide

theorem witness_MergesKeepTheLeatherAndTheOldest :
    ((openings 16).table.map (fun h => h.tag)).Nodup ∧ (openings 16).table ≠ []
    ∧ (∀ h ∈ (openings 16).table, ∀ u ∈ h.lastRuns, ¬(900 ≤ u.last ∧ u.first ≤ 901)) := by decide +kernel

/-- Two hides a run links, and a third that it does not: the two become one, the third stays (R39 to R41). -/
theorem witness_MergesKeepTheLeatherAndTheOldest_linked :
    let hide (tag : Tag) (a b : Nat) : Hide := { openedHide ⟨0, 0, [], Settings.reset, [], .run, []⟩ [] tag ⟨a, b, 0⟩ with
      lastRuns := [⟨a, b⟩], pieces := 3 }
    let table := [hide 2 0 3, hide 1 5 8, hide 3 20 30]
    let runs : List Run := [⟨3, 5, 0⟩]
    let merged := mergedTable (resolvedGroups 4 table runs) table
    (table.map (fun h => h.tag)).Nodup ∧ merged.map (fun h => (h.tag, h.pieces, hasFlag h.flags .joined))
      = [(1, 6, true), (3, 3, false)] := by decide +kernel

theorem witness_SpotIsTheFirstFullStreak :
    let spot (st : SpotState) : Spot := ⟨st, 0, 0⟩
    (1 : Nat) ≤ 1 ∧ ((spot .lead).state = .lead ∧ 9 < 10) ∧ ((spot .lead).state = .lead ∧ 10 ≤ 10)
    ∧ (spot .seek).state = .seek ∧ (spot .none).state = .none ∧ (spot .found).state = .found
    ∧ 1 ≤ Settings.reset.encoderStep * Settings.reset.lineInterval := by decide

theorem witness_ReferenceSetsTheGain :
    let s : State := { inMode .calibrate with cal := .waiting 1000000 }
    let g (raw : Nat) := (1000000 * 100000 + raw / 2) / raw
    (∀ a, State.reset.cal ≠ .waiting a) ∧ s.cal = .waiting 1000000
    ∧ (s.settings.minArea ≤ 1000000 ∧ hasFlag 0x0040#16 .refCandidate = true) ∧ ¬(s.settings.minArea ≤ 49999)
    ∧ (0x0041#16 ||| 0x4000#16) &&& 0x003F#16 ≠ 0#16 ∧ ¬((0x0040#16 ||| 0x4000#16) &&& 0x003F#16 ≠ 0#16)
    ∧ g 1052631 = 95000 ∧ g 952381 = 105000 ∧ g 1052640 < 95000 ∧ 105000 < g 952370 :=
  ⟨fun a h => (by cases h), rfl, by decide +kernel, by decide +kernel, by decide, by decide, by decide +kernel,
    by decide +kernel, by decide +kernel, by decide +kernel⟩

theorem witness_CalEndReturnsToIdle :
    let s := { inMode .calibrate with cal := .ending }
    State.reset.pins.resetAsserted = false ∧ ¬(State.reset.mdc.mode = .calibrate ∧ State.reset.cal = .ending)
    ∧ s.pins.resetAsserted = false ∧ s.mdc.mode = .calibrate ∧ s.cal = .ending ∧ s.htk.table = [] := by
  decide +kernel

theorem witness_ReadyArmsOrFires :
    let e := entryAt 5000 (some (order .arming))
    let s := printing .arming .arming
    s.pins.resetAsserted = false ∧ (s.stc.get 0).state = .arming ∧ (s.stc.get 0).tag = some e.tag ∧ e ∈ s.tru.transit
    ∧ e.stamp = some (order .arming) ∧ (order .arming).head = 0 ∧ (s.tru.transit.map (fun x => x.tag)).Nodup
    ∧ reached s.tcu.hwm (order .arming).fire = false ∧ reached (atHwm 100 s).tcu.hwm (order .arming).fire = true
    ∧ (∀ x ∈ s.tru.transit, ∀ w ∈ x.stamp.toList, w.head = 0 → w.state ≠ .waiting)
    ∧ (State.reset.stc.get 0).state ≠ .arming ∧ (s.stc.get 0).tag ≠ some 6#16
    ∧ 0#16 ≠ crc16 (0x81#8 :: bytes16 5#16) := by decide +kernel

theorem witness_DoneEndsThePrint :
    let s := printing .firing .printing
    let gone := { s with stc := s.stc.set 0 { s.stc.get 0 with detached := true }, tru := Tru.reset }
    s.pins.resetAsserted = false ∧ (s.stc.get 0).state = .printing ∧ (s.stc.get 0).tag = some 5#16
    ∧ (∀ x ∈ s.tru.transit, ∀ w ∈ x.stamp.toList, w.head = 0 → w.state ≠ .waiting)
    ∧ (s.stc.get 0).detached = false ∧ (gone.stc.get 0).state = .printing ∧ (gone.stc.get 0).tag = some 5#16
    ∧ (gone.stc.get 0).detached = true ∧ (State.reset.stc.get 0).state ≠ .printing
    ∧ (s.stc.get 0).tag ≠ some 6#16 ∧ 0#16 ≠ crc16 (0x82#8 :: bytes16 5#16) := by decide +kernel

theorem witness_HeadFaults :
    let s (o : OrderState) (c : ChannelState) := printing o c
    let gone := { s .firing .printing with
      stc := (s .firing .printing).stc.set 0 { (s .firing .printing).stc.get 0 with detached := true } }
    ((s .arming .arming).pins.resetAsserted = false ∧ ((s .arming .arming).stc.get 0).tag = some 5#16
      ∧ ((s .arming .arming).stc.get 0).armTimer = true ∧ ((s .arming .arming).stc.get 0).state = .arming)
    ∧ ((s .armed .armed).stc.get 0).state = .armed ∧ ((s .armed .armed).stc.get 0).armTimer = false
    ∧ (((s .firing .printing).stc.get 0).state = .printing ∧ ((s .firing .printing).stc.get 0).detached = false
      ∧ ((s .firing .printing).stc.get 0).printTimer = true)
    ∧ ((gone.stc.get 0).state = .printing ∧ (gone.stc.get 0).detached = true)
    ∧ (State.reset.stc.get 0).state = .idle ∧ (State.reset.stc.get 0).printTimer = false
    ∧ ((s .waiting .fault).stc.get 0).state = .fault
    ∧ 6#16 ≠ 0#16 ∧ ((s .arming .arming).stc.get 0).tag ≠ some 6#16
    ∧ 0#16 ≠ crc16 (0x83#8 :: (bytes16 5#16 ++ [1#8])) := by decide +kernel

/-- A FAULT frame for tag 0 and the expiries of both timers are faults a statement speaks of. -/
theorem witness_HeadFaults_commands (h : Fin 4) (s : State) :
    ∃ tag code, Instr.faultFrame h 0#16 7#8 (crc16 (0x83#8 :: (bytes16 0#16 ++ [7#8])))
        = .faultFrame h tag code (crc16 (0x83#8 :: (bytes16 tag ++ [code])))
      ∧ HeadCause.code 7#8 = .code code ∧ (tag = 0#16 ∨ (s.stc.get h).tag = some tag) :=
  ⟨0#16, 7#8, rfl, rfl, .inl rfl⟩

theorem witness_HeadLinkGathersFrames :
    let midway (frame : List Byte) : State := { State.reset with
      stc := State.reset.stc.set 3 { Channel.reset with gathered := frame } }
    State.reset.pins.resetAsserted = false ∧ (State.reset.stc.get 3).gathered = []
    ∧ ((midway [0x3C#8]).stc.get 3).gathered = [0x3C#8]
    ∧ [0x3C#8, 0x81#8].length < (if [0x3C#8, 0x81#8].getD 1 0 = 0x83#8 then 7 else 6)
    ∧ [0x3C#8, 0x83#8, 0, 5, 1, 0].length < (if [0x3C#8, 0x83#8, 0, 5, 1, 0].getD 1 0 = 0x83#8 then 7 else 6)
    ∧ ¬[0x3C#8, 0x81#8, 0, 5, 1, 0].length < (if [0x3C#8, 0x81#8, 0, 5, 1, 0].getD 1 0 = 0x83#8 then 7 else 6)
    ∧ 0x84#8 ∉ [0x81#8, 0x82#8, 0x83#8] := by decide +kernel

theorem witness_HeadClearAndArming :
    let s := { printing .waiting .fault with stc := (Quad.const Channel.reset).set 0 { Channel.reset with state := .fault } }
    let idle := { s with stc := Quad.const Channel.reset }
    let e := entryAt 5000 (some (order .waiting))
    (s.listening ∧ 3 < (4#8).toNat ∧ (3#8).toNat = (3 : Fin 4).val ∧ (s.stc.get 3).state ≠ .fault
      ∧ (0#8).toNat = (0 : Fin 4).val ∧ (s.stc.get 0).state = .fault)
    ∧ ((idle.stc.get 0).state = .idle ∧ (idle.tru.transit.map (fun x => x.tag)).Nodup ∧ e ∈ idle.tru.transit
      ∧ e.stamp = some (order .waiting) ∧ (order .waiting).head = 0 ∧ (order .waiting).state = .waiting
      ∧ ∀ x ∈ idle.tru.transit, x = e)
    ∧ (∀ x ∈ State.reset.tru.transit, ∀ w ∈ x.stamp.toList, w.head = 0 → w.state ≠ .waiting)
    ∧ ((printing .arming .arming).stc.get 0).state = .arming := by decide +kernel

/-- The order of tag 5 ARMED in hand of head 0 at fire position 100, and one WAITING for it at the position given. -/
def contested (fire : Count) : State :=
  { printing .armed .armed with
    tru := { Tru.reset with transit := [entryAt 5000 (some (order .armed)),
      { entryAt 5000 (some { order .waiting with fire := fire }) with tag := 6 }] } }

/-- An order 1 count earlier than the ARMED one, and one at its position with a higher tag. -/
theorem witness_HeadClearAndArming_displaced :
    let e := entryAt 5000 (some (order .armed))
    let w (fire : Count) : Entry := { entryAt 5000 (some { order .waiting with fire := fire }) with tag := 6 }
    (((contested 99).stc.get 0).state = .armed ∧ ((contested 99).stc.get 0).tag = some e.tag
      ∧ ((contested 99).tru.transit.map (fun x => x.tag)).Nodup ∧ e ∈ (contested 99).tru.transit
      ∧ w 99 ∈ (contested 99).tru.transit ∧ ∀ x ∈ (contested 99).tru.transit, x ≠ w 99 → x = e)
    ∧ 1 ≤ ((100 : Count) - 99).toNat ∧ ((100 : Count) - 99).toNat < 2 ^ 31
    ∧ (w 100 ∈ (contested 100).tru.transit ∧ ¬(1 ≤ ((100 : Count) - 100).toNat) ∧ ¬(w 100).tag.toNat < e.tag.toNat) := by
  decide +kernel

theorem witness_FirePositionFiresAndMissPositionMisses :
    let e (st : OrderState) := entryAt 5000 (some (order st))
    let fire := atHwm 99 (printing .armed .armed)
    let miss (st : OrderState) (c : ChannelState) := atHwm 180 (printing st c)
    (fire.pins.resetAsserted = false ∧ encoderPhase true false - encoderPhase fire.pins.encoderA fire.pins.encoderB = 1
      ∧ fire.tcu.position = fire.tcu.hwm
      ∧ (∀ g ∈ fire.tcu.grid.toList, fire.mdc.mode.scans = true → g.nextPos ≠ fire.tcu.hwm + 1)
      ∧ (fire.tru.transit.map (fun x => x.tag)).Nodup ∧ e .armed ∈ fire.tru.transit
      ∧ (e .armed).stamp = some (order .armed)
      ∧ (∀ x ∈ fire.tru.transit, reached (fire.tcu.hwm + 1) x.dropPos = false ∧ x = e .armed)
      ∧ (order .armed).fire = fire.tcu.hwm + 1 ∧ (order .armed).missPos ≠ fire.tcu.hwm + 1
      ∧ (fire.stc.get 0).state = .armed ∧ (fire.stc.get 0).tag = some 5#16)
    ∧ ((miss .waiting .fault).pins.resetAsserted = false ∧ e .waiting ∈ (miss .waiting .fault).tru.transit
      ∧ (∀ x ∈ (miss .waiting .fault).tru.transit, reached 181 x.dropPos = false ∧ x = e .waiting)
      ∧ (order .waiting).missPos = (miss .waiting .fault).tcu.hwm + 1 ∧ (order .waiting).fire ≠ 181
      ∧ ((miss .waiting .fault).stc.get 0).state = .fault)
    ∧ (e .arming ∈ (miss .arming .arming).tru.transit ∧ ((miss .arming .arming).stc.get 0).state = .arming
      ∧ ((miss .arming .arming).stc.get 0).tag = some (e .arming).tag)
    ∧ ((miss .waiting .idle).stc.get 0).state = .idle ∧ ((miss .waiting .printing).stc.get 0).state = .printing := by
  decide +kernel

/-- HWM 180 of head 0: the order of tag 5 ARMED in hand with fire position 181, and those of tags 6 and 7, in the list
the other way round, WAITING with miss position 181. -/
def crowded : State :=
  let late := some (order .waiting)
  let first := some { order .armed with fire := 181 }
  { atHwm 180 (printing .armed .armed) with
    tru := { Tru.reset with
      transit := [entryAt 5000 first, { entryAt 5001 late with tag := 7 }, { entryAt 5002 late with tag := 6 }] } }

theorem witness_FirePosition_and_misses_together :
    let s := atHwm 181 crowded
    let owed (t : Tag) (d : Count) : Entry := { entryAt d (some (order .waiting)) with tag := t }
    (s.tru.transit.map (fun x => x.tag)).Nodup
    ∧ (entryAt 5000 (some { order .armed with fire := 181 }) ∈ s.tru.transit ∧ (s.stc.get 0).state = .armed
      ∧ (s.stc.get 0).tag = some 5#16 ∧ (181 : Count) = s.tcu.hwm)
    ∧ (∀ x ∈ [owed 6 5002, owed 7 5001], x ∈ s.tru.transit ∧ x.stamp = some (order .waiting))
    ∧ (order .waiting).fire + BitVec.ofNat 32 (order .waiting).slip + 1 = s.tcu.hwm
    ∧ (owed 6 5002).tag.toNat < (owed 7 5001).tag.toNat
    ∧ (∀ e ∈ (atHwm 180 crowded).tru.transit, ∀ o ∈ e.stamp.toList, o.fire ≠ 180) := by decide +kernel

/-- The advance to 181 fires the order in hand and misses both others, the lower tag first (R118). -/
theorem test_fire_and_misses_at_one_advance :
    after (.encoderStep true false) crowded (fun t => decide ((t.stc.get 0).state = .printing
      ∧ (t.stc.get 0).sent = [headFrame 0x02#8 5#16 []]
      ∧ t.rpq.queue = [.stampMiss 6 0 0 .late .waiting 100 181, .stampMiss 7 0 0 .late .waiting 100 181]
      ∧ t.openChoices = 0)) = true := by decide +kernel

theorem witness_DropSettlesTheOrder :
    let s := printing .arming .arming
    let e := entryAt 5000 (some (order .arming))
    (entryAt 5000 none).stamp = none ∧ e.stamp = some (order .arming) ∧ (order .done).state = .done
    ∧ (order (.missed .late)).state = .missed .late ∧ (order .failed).state = .failed
    ∧ (order .firing).state = .firing ∧ (order .waiting).state = .waiting
    ∧ ((s.stc.get 0).state = .arming ∧ (s.stc.get 0).tag = some e.tag)
    ∧ ¬((State.reset.stc.get 0).state = .arming ∨ (State.reset.stc.get 0).state = .armed) := by decide +kernel

theorem witness_ClosedHidesReachTheTransitUnit :
    let s := { State.reset with tru := { Tru.reset with transit := List.replicate 24 (entryAt 5000 none) } }
    let told := { s with rpq := { s.rpq with transitFull := ⟨false, 65535⟩ } }
    let due (x : Entry) := (x.dropPos - 90#32).toNat
    (closed none .found).lane = none
    ∧ ((closed (some 0) .found).lane = some 0
      ∧ s.tru.transit = entryAt 5000 none :: List.replicate 23 (entryAt 5000 none)
      ∧ 24 ≤ s.tru.transit.length ∧ s.rpq.transitFull.armed = true ∧ told.rpq.transitFull.armed = false)
    ∧ ((closed (some 0) .seek).spot ≠ .found ∧ State.reset.tru.transit.length < 24
      ∧ reached State.reset.tcu.hwm ((closed (some 0) .seek).lastPos + 24000) = false)
    ∧ ((closed (some 0) .found).spot = .found ∧ (closed (some 0) .found).flags &&& 0x4181#16 = 0#16
      ∧ State.reset.settings.stamping.get 0 = true ∧ State.reset.settings.laneHead.get 0 = some 0)
    ∧ (reached (atHwm 24000 State.reset).tcu.hwm ((closed (some 0) .seek).lastPos + 24000) = true
      ∧ (newEntry (closed (some 0) .found) 0 State.reset).stamp.map (fun o => o.state) = some .waiting
      ∧ (newEntry (closed (some 0) .found) 0 (atHwm 12081 State.reset)).stamp.map (fun o => o.state)
        = some (.missed .lateClose))
    ∧ ((∀ x ∈ [entryAt 95 none, entryAt 100 none], due x < 2 ^ 31)
      ∧ ∀ x ∈ [entryAt 100 none], x.tag ≠ ({ entryAt 95 none with tag := 6 } : Entry).tag) := by decide +kernel

theorem witness_FateAtDrop :
    let s := { State.reset with settings := { Settings.reset with gatePresent := Quad.const true } }
    let full := packing ⟨1, 999, 0, 0, 0, .wait, some .target⟩ 8
    let gateFull := { full with settings := s.settings }
    let named (f : FlagSet) := f &&& s.settings.divertMask.get 0 ≠ 0#16
    (s.settings.gatePresent.get 0 = true ∧ named 0x0001#16) ∧ ¬named 0x0080#16 ∧ 0x0080#16 &&& 0x0080#16 ≠ 0#16
    ∧ (¬named 0#16 ∧ (s.tlu.packs.get 0).hides < 999)
    ∧ (¬(full.tlu.packs.get 0).hides < 999 ∧ ¬full.settings.gatePresent.get 0 = true)
    ∧ (¬(gateFull.tlu.packs.get 0).hides < 999 ∧ gateFull.settings.gatePresent.get 0 = true) := by decide +kernel

theorem witness_DropAtTheDropPosition :
    let e := entryAt 5000 none
    let s := atHwm 4999 { State.reset with tru := { Tru.reset with transit := [e] } }
    let small := { e with flags := 0x0080#16 }
    let gate := { s with settings := { Settings.reset with gatePresent := Quad.const true } }
    let joined := { e with flags := 0x0001#16 }
    (s.pins.resetAsserted = false ∧ encoderPhase true false - encoderPhase s.pins.encoderA s.pins.encoderB = 1
      ∧ s.tcu.position = s.tcu.hwm
      ∧ (∀ g ∈ s.tcu.grid.toList, s.mdc.mode.scans = true → g.nextPos ≠ s.tcu.hwm + 1)
      ∧ s.tru.transit = e :: [] ∧ e.dropPos = s.tcu.hwm + 1 ∧ e.stamp = none ∧ e.lots = Quad.const false)
    ∧ (decideFate e.lane e.flags s = (.pack, e.flags)
      ∧ ¬((s.settings.target.get 0).mode = .count ∧ (s.settings.target.get 0).value ≤ (s.tlu.packs.get 0).hides + 1)
      ∧ (s.settings.target.get 0).mode ≠ .area)
    ∧ (decideFate small.lane small.flags s = (.scrap, small.flags) ∧ hasFlag small.flags .ref = false)
    ∧ decideFate joined.lane joined.flags gate = (.divert, joined.flags) := by decide +kernel

/-- RUN at HWM 19: the advance to 20 reaches line 0, the miss position of tag 7 and the drop positions of tags 5 and
6, but not that of tag 7. -/
def busiest : State :=
  { running with
    tru := { Tru.reset with
      transit := [entryAt 20 none, { entryAt 20 none with tag := 6 },
        { entryAt 21 (some { order .waiting with fire := 20 - 81 }) with tag := 7 }] } }

theorem witness_DropAtTheDropPosition_with_others :
    let s := busiest
    (s.pins.resetAsserted = false ∧ encoderPhase true false - encoderPhase s.pins.encoderA s.pins.encoderB = 1
      ∧ s.tcu.position = s.tcu.hwm ∧ (s.tru.transit.map (fun x => x.tag)).Nodup)
    ∧ (s.mdc.mode.scans = true ∧ s.tcu.grid = some ⟨20, 0, 20⟩ ∧ (20 : Count) = s.tcu.hwm + 1)
    ∧ (s.tru.transit.takeWhile (fun e => reached 20 e.dropPos)).length = 2
    ∧ dueItems (atHwm 20 s) = [.line, .stamp 0, .drops] := by decide +kernel

/-- In each of the six orders of the blocks the line is requested, the miss reported, and both drops taken in list
order (R131, log entry 1). -/
theorem test_every_order_of_one_advance : ∀ k : Fin 6,
    let s := atHwm 20 { busiest with settings := { Settings.reset with notice := 0 } }
    let t := (arrange k.val (dueItems s)).foldl takeItem s
    t.tru.transit.map (fun e => e.tag) = [7#16] ∧ t.slr.outstanding = some 0
    ∧ t.rpq.queue.filterMap (fun r => match r with | .hide h => some h.tag | _ => none) = [5#16, 6#16]
    ∧ t.rpq.queue.length = 3 := by decide +kernel

theorem witness_PulsesEnd :
    let s := { State.reset with
      tru := { Tru.reset with gateTimer := Quad.const true }, tlu := { Tlu.reset with changeTimer := Quad.const true } }
    s.pins.resetAsserted = false ∧ s.tru.gateTimer.get 3 = true ∧ s.tlu.changeTimer.get 3 = true
    ∧ State.reset.tru.gateTimer.get 3 = false ∧ State.reset.tlu.changeTimer.get 3 = false := by decide +kernel

theorem witness_PackClose :
    let opened (n : Nat) := packing ⟨65535, 3, 90, 2000000, 1, .opened, none⟩ n
    let waiting := packing ⟨7, 3, 90, 2000000, 1, .wait, some .target⟩ 8
    3 < (4#8).toNat ∧ (0#8).toNat = (0 : Fin 4).val ∧ (3#8).toNat = (3 : Fin 4).val
    ∧ (State.reset.listening ∧ (State.reset.tlu.packs.get 0).hides = 0)
    ∧ (waiting.listening ∧ (waiting.tlu.packs.get 0).hides ≠ 0 ∧ (waiting.tlu.packs.get 0).state = .wait)
    ∧ ((opened 7).listening ∧ ((opened 7).tlu.packs.get 0).hides ≠ 0 ∧ ((opened 7).tlu.packs.get 0).state = .opened
      ∧ (opened 7).tlu.tickets.length < 8)
    ∧ ((opened 8).listening ∧ 8 ≤ (opened 8).tlu.tickets.length) := by decide +kernel

theorem witness_PackTarget :
    let s := packing ⟨7, 3, 90, 2000000, 1, .opened, none⟩ 0
    s.listening ∧ 3 < (4#8).toNat ∧ ¬(1 ≤ (0#32).toNat) ∧ ¬((1000#32).toNat ≤ 999)
    ∧ ((0#8).toNat = (0 : Fin 4).val ∧ 1 ≤ (4#32).toNat ∧ (4#32).toNat ≤ 999
      ∧ ¬((4#32).toNat ≤ (s.tlu.packs.get 0).hides))
    ∧ ((s.tlu.packs.get 0).state = .opened ∧ (3#32).toNat ≤ (s.tlu.packs.get 0).hides
      ∧ (90#32).toNat ≤ (s.tlu.packs.get 0).units) := by decide +kernel

theorem witness_LotOpenAndRead :
    let s := State.reset
    let used := lotting ⟨.opened, 5, 1, 0, 0, 0, 0, false⟩ 0
    s.listening ∧ 3 < (4#8).toNat ∧ (0#8).toNat = (0 : Fin 4).val ∧ (3#8).toNat = (3 : Fin 4).val
    ∧ (used.listening ∧ (used.tlu.lots.get 0).state ≠ .free)
    ∧ ((s.tlu.lots.get 0).state = .free ∧ 1 ≤ (999999#32).toNat ∧ (999999#32).toNat ≤ 999999 ∧ 1 ≤ (15#8).toNat
      ∧ (15#8).toNat ≤ 15) ∧ ¬((1000000#32).toNat ≤ 999999) ∧ ¬((16#8).toNat ≤ 15) := by decide +kernel

theorem witness_LotClose :
    let lot (k n : Nat) := lotting ⟨.opened, 5, 1, 2, 80, 2000000, k, false⟩ n
    State.reset.listening ∧ 3 < (4#8).toNat ∧ (0#8).toNat = (0 : Fin 4).val
    ∧ (State.reset.tlu.lots.get 0).state ≠ .opened
    ∧ ((lot 1 0).listening ∧ ((lot 1 0).tlu.lots.get 0).state = .opened ∧ ((lot 1 0).tlu.lots.get 0).inFlight ≠ 0)
    ∧ ((lot 0 7).listening ∧ ((lot 0 7).tlu.lots.get 0).inFlight = 0 ∧ (lot 0 7).tlu.tickets.length < 8)
    ∧ ((lot 0 8).listening ∧ 8 ≤ (lot 0 8).tlu.tickets.length) := by decide +kernel

theorem witness_TicketRemovesTheOldest :
    let t : Ticket := ⟨.pack, 1, 1, 1, 1, 1, 0, 0, .host, false⟩
    let packWaits := { packing ⟨7, 3, 90, 2000000, 1, .wait, some .target⟩ 8 with
      tlu := { (packing ⟨7, 3, 90, 2000000, 1, .wait, some .target⟩ 8).tlu with waiters := [.pack 0, .lot 0] } }
    let lotWaits := { packWaits with tlu := { packWaits.tlu with waiters := [.lot 0] } }
    (State.reset.listening ∧ State.reset.tlu.tickets = [])
    ∧ ((packing (Pack.fresh 1) 1).listening ∧ (packing (Pack.fresh 1) 1).tlu.tickets = t :: []
      ∧ (packing (Pack.fresh 1) 1).tlu.waiters = [])
    ∧ (packWaits.listening ∧ packWaits.tlu.tickets = t :: List.replicate 7 t
      ∧ packWaits.tlu.waiters = .pack 0 :: [.lot 0] ∧ (packWaits.tlu.packs.get 0).cause = some .target)
    ∧ (lotWaits.listening ∧ lotWaits.tlu.tickets = t :: List.replicate 7 t ∧ lotWaits.tlu.waiters = .lot 0 :: []) := by
  decide +kernel

theorem witness_StartResumeClearAndBusy :
    let paused := { inMode .pause with tcu := { Tcu.reset with grid := some ⟨20, 3, 80⟩ } }
    (State.reset.listening ∧ State.reset.mdc.mode = .idle)
    ∧ (paused.listening ∧ paused.mdc.mode = .pause ∧ paused.tcu.grid = some ⟨20, 3, 80⟩)
    ∧ ((inMode .fault).listening ∧ (inMode .fault).mdc.mode = .fault)
    ∧ ((inMode .run).listening ∧ (inMode .run).mdc.mode ≠ .idle ∧ (inMode .run).mdc.mode ≠ .fault) := by
  decide +kernel

theorem witness_CalibEntersCalibrate :
    State.reset.listening ∧ State.reset.mdc.mode = .idle ∧ (inMode .run).listening ∧ (inMode .run).mdc.mode ≠ .idle
    ∧ (100000 ≤ (100000#32).toNat ∧ (10000000#32).toNat ≤ 10000000)
    ∧ ¬(100000 ≤ (99999#32).toNat) ∧ ¬((10000001#32).toNat ≤ 10000000) := by decide +kernel

theorem witness_PauseAndStopCloseEveryHide :
    let calibrating : State := { running with mdc := ⟨.calibrate, .none⟩, cal := .waiting 1000000 }
    (running.listening ∧ running.marksAgree ∧ running.mdc.mode = .run ∧ running.htk.table = [])
    ∧ ((inMode .pause).listening ∧ (inMode .pause).marksAgree ∧ (inMode .pause).mdc.mode = .pause)
    ∧ (calibrating.listening ∧ calibrating.marksAgree ∧ calibrating.mdc.mode = .calibrate) := by
  refine ⟨⟨?_, ?_, rfl, rfl⟩, ⟨?_, ?_, rfl⟩, ⟨?_, ?_, rfl⟩⟩ <;> decide +kernel

theorem witness_HostBytesAreGathered :
    let gathering (l : List Byte) := { State.reset with cml := { Cml.reset false with receiver := .gathering l } }
    (State.reset.pins.resetAsserted = false ∧ State.reset.cml.receiver = .hunting)
    ∧ ((gathering []).pins.resetAsserted = false ∧ (gathering []).cml.receiver = .gathering [])
    ∧ [0x08#8].length + 2 < (2#8).toNat + 3
    ∧ (([0x08#8, 1#8, 0xAA#8].length + 1 = (2#8).toNat + 2)
      ∧ ([2#8, 0x08#8, 1#8, 0xAA#8] ++ [0xAA#8]).drop ((2#8).toNat + 1)
        ≠ bytes16 (crc16 ([2#8, 0x08#8, 1#8, 0xAA#8].take ((2#8).toNat + 1)))) := by decide +kernel

theorem witness_TelegramBytesMakeTheRequest :
    hostTelegram (.lotOpen 9 3 999999 15) = some (0x13#8, 9#8, 3#8 :: (bytes32 999999 ++ [15#8]))
    ∧ (Instr.lotOpen 9 3 999999 15).wf = true ∧ (Instr.requestUnknown 9 0xFF (List.replicate 248 0)).wf = true
    ∧ State.reset.cml.receiver = .hunting := by decide +kernel

theorem witness_ReceiveBufferHasTwoPlaces :
    let first : Telegram := ⟨1, .maskList⟩
    let second : Telegram := ⟨2, parseRequest 0x10 []⟩
    hostTelegram (.ticket 2) = some (0x10#8, 2#8, []) ∧ (Instr.ticket 2).wf = true
    ∧ ((replying []).pins.resetAsserted = false ∧ (replying []).cml.reply = some [0xA5#8]
      ∧ (replying []).cml.buffer = [first])
    ∧ (2 ≤ (replying [second]).cml.buffer.length ∧ (replying [second]).cml.buffer = [first, second])
    ∧ State.reset.cml.reply = none := by decide +kernel

theorem witness_UnfitRequestsAreRefused :
    State.reset.listening ∧ 0x18 < (0x19#8).toNat ∧ 60 < (List.replicate 61 0#16).length
    ∧ ((0x18#8).toNat, 0) ∈ [(0x18, 0)] ∧ [0#8].length ≠ 0
    ∧ ([0#8, 0#8].length < 3 ∧ ¬(1 ≤ ([0#8, 0#8, 0#8].getD 2 0#8).toNat)
      ∧ [0#8, 0#8, 1#8, 3#8].length ≠ 3 + 2 * ([0#8, 0#8, 1#8, 3#8].getD 2 0#8).toNat) := by decide +kernel

theorem witness_StatusReportsTheState :
    State.reset.listening ∧ State.reset.withinCapacity ∧ State.reset.lcn.marked.length ≤ 1024 := by decide +kernel

theorem witness_SetWritesASetting :
    let s := State.reset
    let row : PlainNumber := ⟨3#8, false, 100, 10000, fun c v => { c with stallTime := v }⟩
    row ∈ plainNumbers
    ∧ (s.listening ∧ s.mdc.mode = .idle ∧ s.htk.table = [] ∧ (inMode .run).listening ∧ (inMode .run).mdc.mode ≠ .idle)
    ∧ (100 ≤ (100#32).toNat ∧ (10000#32).toNat ≤ 10000 ∧ ¬(100 ≤ (99#32).toNat) ∧ ¬((10001#32).toNat ≤ 10000))
    ∧ (20 < (21#8).toNat ∧ (31#8).toNat < 32 ∧ 59 < (60#8).toNat ∧ (63#8).toNat < 64 ∧ 75 < (76#8).toNat)
    ∧ (1000 * s.settings.lineInterval ≤ 20000 ∧ ¬(1001 * s.settings.lineInterval ≤ 20000)
      ∧ ¬(s.settings.encoderStep * 64 ≤ 15999) ∧ s.settings.encoderStep * 64 ≤ 20000)
    ∧ (settingOf 36#8 = some (.laneHead 0) ∧ (Setting.laneHead 0).when.met s = true
      ∧ (Setting.laneHead 0).when.met (inMode .run) = false ∧ (Setting.laneHead 0).written 4 s.settings = none
      ∧ ((Setting.laneHead 0).written 255 s.settings).isSome = true)
    ∧ (settingOf 56#8 = some (.target 0) ∧ ((Setting.target 0).written 50 s.settings).isSome = true
      ∧ (s.tlu.packs.get 0).state = .opened) :=
  ⟨.head _, by decide +kernel, by decide, by decide, by decide +kernel, by decide +kernel, by decide +kernel⟩

/-- The settings that more than a range checks: a value that fits and one that does not, for each, with the settings at
reset, and a state in which the setting may not be written. -/
theorem witness_SetWritesASetting_rows :
    let c := Settings.reset
    let two := { c with window := c.window.set 1 ⟨true, 500, 600⟩ }
    let used : State := { packing ⟨1, 3, 40, 0, 0, .opened, none⟩ 8 with mdc := ⟨.idle, .none⟩ }
    (2 ^ 24 + 2 ^ 12 * 10 + 499) / 2 ^ 24 = 1 ∧ (2 ^ 24 + 2 ^ 12 * 10 + 499) / 2 ^ 12 % 2 ^ 12 = 10
    ∧ 499 < (two.window.get 1).first ∧ ¬(500 < (two.window.get 1).first ∨ (two.window.get 1).last < 10)
    ∧ c.headDistance.get 0 + 100 ≤ c.dropDistance.get 0 ∧ ¬(c.headDistance.get 0 + 100 ≤ 3099) ∧ ¬5901 + 100 ≤ c.dropDistance.get 0
    ∧ (0x043F#32 &&& 0xFFFFF840#32 = 0#32 ∧ 0x0040#32 &&& 0xFFFFF840#32 ≠ 0#32)
    ∧ (1015 + c.footWidth.get 0 ≤ 1024 ∧ ¬(1017 + c.footWidth.get 0 ≤ 1024) ∧ c.footFirst.get 0 + 32 ≤ 1024)
    ∧ (State.reset.tru.transit = [] ∧ ∀ i : Fin 4, (State.reset.tlu.packs.get i).hides = 0
      ∧ (State.reset.tlu.lots.get i).hides = 0 ∧ (State.reset.tlu.lots.get i).inFlight = 0)
    ∧ ((used.tlu.packs.get 0).hides ≠ 0 ∧ (used.tlu.packs.get 0).state = .opened ∧ 3 ≤ (used.tlu.packs.get 0).hides
      ∧ ¬4 ≤ (used.tlu.packs.get 0).hides) := by decide +kernel

theorem witness_SettingsReadBackAsWritten :
    State.reset.listening ∧ settingOf 0#8 = none ∧ settingOf 75#8 = some (.headDistance 3)
    ∧ (Setting.stallTime.written 10000 Settings.reset).isSome = true
    ∧ ((Setting.target 3).written (2 * 2 ^ 24 + 7) Settings.reset).isSome = true
    ∧ ((Setting.target 3).written (2 ^ 24 + 9999999) Settings.reset).isSome = true := by decide +kernel

theorem witness_FieldsAndRepliesOnTheLink : 65535 < 256 ^ 2 := by decide

theorem witness_RecordAdmission :
    let s := State.reset
    let held (n : Nat) := { s with rpq := { s.rpq with queue := List.replicate n (.scanLost 0 3) } }
    let low : Record := .lineHeld 0 1
    let five : Record := .tableFull 0 1 1
    let high : Record := .scanLost 0 3
    low.level ≤ s.settings.notice
    ∧ (s.settings.notice < five.level ∧ five.level ≤ 5 ∧ 28 ≤ (held 28).rpq.queue.length)
    ∧ (s.settings.notice < high.level ∧ 6 ≤ high.level ∧ 32 ≤ (held 32).rpq.queue.length)
    ∧ ¬((five.level ≤ 5 ∧ 28 ≤ (held 27).rpq.queue.length) ∨ (6 ≤ five.level ∧ 32 ≤ (held 27).rpq.queue.length))
    ∧ ¬((high.level ≤ 5 ∧ 28 ≤ (held 31).rpq.queue.length) ∨ (6 ≤ high.level ∧ 32 ≤ (held 31).rpq.queue.length)) := by
  decide +kernel

theorem witness_FetchAndRearm :
    State.reset.listening ∧ ¬(1 ≤ (0#8).toNat) ∧ ¬((8#8).toNat ≤ 7) ∧ 1 ≤ (7#8).toNat ∧ (7#8).toNat ≤ 7
    ∧ 7#8 ≠ 5#8 ∧ 7#8 ≠ 6#8 := by decide +kernel

theorem witness_ResetIsTheSoftReset : running.listening := by decide +kernel

theorem witness_FullResetAndTheResetInput :
    let s : State := { State.reset with pins := ⟨true, true, false, true⟩ }
    s.pins.resetAsserted = true
    ∧ (∀ a b, Instr.calEnd ≠ .encoderStep a b) ∧ Instr.calEnd ≠ .beltRunAssert ∧ Instr.calEnd ≠ .beltRunDeassert
    ∧ Instr.calEnd ≠ .resetInputRelease ∧ ∀ k l, Instr.calEnd ≠ .fullReset k l :=
  ⟨rfl, by decide, by decide, by decide, by decide, by intro k; cases k <;> decide⟩

/-- Settings at reset are valid, and a step from there answers next. -/
theorem witness_StepKeepsSettingsValid : State.reset.settings.valid ∧ ∃ t, step State.reset = .next t :=
  ⟨⟨by decide +kernel, by decide +kernel, by decide +kernel, by decide +kernel⟩, _, rfl⟩

/-- A state in RUN with a command waiting, as the invariants speak of one. -/
def stepping : State := { watched with pending := [.encoderStep true false] }

theorem witness_StepKeepsMarksInAgreement : stepping.marksAgree ∧ ∃ t, step stepping = .next t :=
  ⟨by decide +kernel, _, rfl⟩

theorem witness_StepKeepsTheDepth : stepping.depthBounded ∧ ∃ t, step stepping = .next t :=
  ⟨by decide +kernel, _, rfl⟩

theorem witness_StepKeepsCapacities : stepping.tallyAgrees ∧ stepping.withinCapacity ∧ ∃ t, step stepping = .next t :=
  ⟨by decide +kernel, by decide +kernel, _, rfl⟩

/-- The state of an ARMED order one count before its fire position, with the encoder step waiting. -/
def arriving : State := { atHwm 99 (printing .armed .armed) with pending := [.encoderStep true false] }

theorem witness_StepKeepsTagsDistinct :
    arriving.withinCapacity ∧ arriving.tagsDistinct ∧ ∃ t, step arriving = .next t :=
  ⟨by decide +kernel, by decide +kernel, _, rfl⟩

theorem witness_StepKeepsChannelsPaired :
    arriving.withinCapacity ∧ arriving.tagsDistinct ∧ arriving.channelsPaired ∧ ∃ t, step arriving = .next t :=
  ⟨by decide +kernel, by decide +kernel, by decide +kernel, _, rfl⟩

theorem witness_StepKeepsTheTallyInAgreement : arriving.tallyAgrees ∧ ∃ t, step arriving = .next t :=
  ⟨by decide +kernel, _, rfl⟩

end Sys2Proof.Tests
end

/-! Run extraction (R25). The scan of `extractRuns cells i start` stands before cell i, with the readings of the
cells from i on in `cells` and, when a run is under way, its first cell in `start`. Each fact is proved for a scan at
any cell, along the cases of `extractRuns`; the obligation is the scan of a whole line. -/

namespace Sys2Proof.Machine

/-- A cell that a scan at cell i accounts for: one of the run under way, or one of the cells to come that reads
covered. -/
def scanCovers (cells : List Bool) (i : Nat) (start : Option Nat) (j : Nat) : Prop :=
  (∃ a ∈ start, a ≤ j ∧ j < i) ∨ (i ≤ j ∧ cells.getD (j - i) false = true)

/-- The run under way, if one is, has a cell before cell i. -/
def startsBefore (i : Nat) (start : Option Nat) : Prop := ∀ a ∈ start, a < i

theorem startsBefore_none (i : Nat) : startsBefore i none := nofun

theorem startsBefore_some {i a : Nat} : startsBefore i (some a) ↔ a < i := by
  simp [startsBefore]

theorem scanCovers_none {cells : List Bool} {i j : Nat} :
    scanCovers cells i none j ↔ i ≤ j ∧ cells.getD (j - i) false = true := by
  simp only [scanCovers, Option.not_mem_none, false_and, exists_false, false_or]

theorem scanCovers_some {cells : List Bool} {i a j : Nat} :
    scanCovers cells i (some a) j ↔ (a ≤ j ∧ j < i) ∨ (i ≤ j ∧ cells.getD (j - i) false = true) := by
  simp only [scanCovers, Option.mem_some_iff, exists_eq_left']

theorem scanCovers_nil_none (i j : Nat) : ¬ scanCovers [] i none j := by
  simp [scanCovers_none]

theorem scanCovers_nil_some (i a j : Nat) : scanCovers [] i (some a) j ↔ a ≤ j ∧ j < i := by
  simp [scanCovers_some]

/-- A cell from cell i on is the cell at hand, or one from the next cell on. -/
theorem getD_scan_cons (b : Bool) (rest : List Bool) (i j : Nat) :
    (i ≤ j ∧ (b :: rest).getD (j - i) false = true) ↔
      (j = i ∧ b = true) ∨ (i + 1 ≤ j ∧ rest.getD (j - (i + 1)) false = true) := by
  obtain hlt | rfl | hgt := Nat.lt_trichotomy j i
  · omega
  · simp
  · have hnext : j - i = j - (i + 1) + 1 := by omega
    have hle : i ≤ j ∧ i + 1 ≤ j ∧ j ≠ i := by omega
    rw [hnext, List.getD_cons_succ]
    simp only [hle, true_and, false_and, false_or]

/-- A covered cell starts a run when none is under way. -/
theorem scanCovers_true_none (rest : List Bool) (i j : Nat) :
    scanCovers (true :: rest) i none j ↔ scanCovers rest (i + 1) (some i) j := by
  have hcell : j = i ↔ i ≤ j ∧ j < i + 1 := by omega
  rw [scanCovers_none, scanCovers_some, getD_scan_cons, ← hcell, eq_self, and_true]

/-- A covered cell extends the run under way. -/
theorem scanCovers_true_some (rest : List Bool) {i a : Nat} (ha : a < i) (j : Nat) :
    scanCovers (true :: rest) i (some a) j ↔ scanCovers rest (i + 1) (some a) j := by
  have hcell : (a ≤ j ∧ j < i) ∨ j = i ↔ a ≤ j ∧ j < i + 1 := by omega
  rw [scanCovers_some, scanCovers_some, getD_scan_cons, ← hcell, eq_self, and_true, or_assoc]

/-- An uncovered cell leaves no run under way. -/
theorem scanCovers_false_none (rest : List Bool) (i j : Nat) :
    scanCovers (false :: rest) i none j ↔ scanCovers rest (i + 1) none j := by
  simp only [scanCovers_none, getD_scan_cons, Bool.false_eq_true, and_false, false_or]

/-- An uncovered cell ends the run under way at the cell before it. -/
theorem scanCovers_false_some (rest : List Bool) (i a j : Nat) :
    scanCovers (false :: rest) i (some a) j ↔ (a ≤ j ∧ j < i) ∨ scanCovers rest (i + 1) none j := by
  simp only [scanCovers_none, scanCovers_some, getD_scan_cons, Bool.false_eq_true, and_false, false_or]

/-- The end of the line does not move as the scan goes on. -/
theorem scan_end_cons (b : Bool) (rest : List Bool) (i : Nat) :
    i + (b :: rest).length = i + 1 + rest.length := by
  rw [List.length_cons, Nat.add_comm rest.length, Nat.add_assoc]

/-- Every run is non-empty, ends on the line, and starts at the run under way or at a cell to come. -/
theorem extractRuns_bounds {cells : List Bool} {i : Nat} {start : Option Nat} (hs : startsBefore i start) :
    ∀ r ∈ extractRuns cells i start,
      start.getD i ≤ r.first ∧ r.first ≤ r.last ∧ r.last < i + cells.length := by
  induction cells, i, start using extractRuns.induct with
  | case1 => exact List.forall_mem_nil _
  | case2 i a =>
    rw [startsBefore_some] at hs
    simp only [extractRuns, List.mem_singleton, forall_eq, Option.getD_some, List.length_nil]
    omega
  | case3 i rest ih =>
    rw [scan_end_cons]
    exact ih (startsBefore_some.2 i.lt_succ_self)
  | case4 i rest a ih =>
    rw [scan_end_cons]
    exact ih (startsBefore_some.2 (Nat.lt_succ_of_lt (startsBefore_some.1 hs)))
  | case5 i rest ih =>
    rw [scan_end_cons]
    intro r hr
    obtain ⟨hfirst, hrest⟩ := ih (startsBefore_none _) r hr
    exact ⟨Nat.le_of_succ_le hfirst, hrest⟩
  | case6 i rest a ih =>
    rw [startsBefore_some] at hs
    simp only [extractRuns, List.forall_mem_cons, scan_end_cons, Option.getD_some]
    refine ⟨by omega, fun r hr => ?_⟩
    obtain ⟨hfirst, hrest⟩ := ih (startsBefore_none _) r hr
    rw [Option.getD_none] at hfirst
    exact ⟨by omega, hrest⟩

/-- A run is written down at the uncovered cell after it, and every later run starts above that cell. -/
theorem extractRuns_separated {cells : List Bool} {i : Nat} {start : Option Nat} (hs : startsBefore i start) :
    (extractRuns cells i start).Pairwise (fun a b => a.last + 1 < b.first) := by
  induction cells, i, start using extractRuns.induct with
  | case1 => exact .nil
  | case2 i a => exact List.pairwise_singleton _ _
  | case3 i rest ih => exact ih (startsBefore_some.2 i.lt_succ_self)
  | case4 i rest a ih => exact ih (startsBefore_some.2 (Nat.lt_succ_of_lt (startsBefore_some.1 hs)))
  | case5 i rest ih => exact ih (startsBefore_none _)
  | case6 i rest a ih =>
    rw [startsBefore_some] at hs
    refine .cons (fun r hr => ?_) (ih (startsBefore_none _))
    obtain ⟨hfirst, -, -⟩ := extractRuns_bounds (startsBefore_none (i + 1)) r hr
    simp only [Option.getD] at hfirst ⊢
    omega

/-- The runs hold exactly the cells that the scan accounts for. -/
theorem mem_extractRuns_iff_scanCovers {cells : List Bool} {i : Nat} {start : Option Nat}
    (hs : startsBefore i start) (j : Nat) :
    (∃ r ∈ extractRuns cells i start, r.first ≤ j ∧ j ≤ r.last) ↔ scanCovers cells i start j := by
  induction cells, i, start using extractRuns.induct with
  | case1 i => simp [extractRuns, scanCovers_nil_none]
  | case2 i a =>
    rw [startsBefore_some] at hs
    simp [extractRuns, scanCovers_nil_some, Nat.le_sub_one_iff_lt (Nat.zero_lt_of_lt hs)]
  | case3 i rest ih =>
    rw [scanCovers_true_none]
    exact ih (startsBefore_some.2 i.lt_succ_self)
  | case4 i rest a ih =>
    rw [startsBefore_some] at hs
    rw [scanCovers_true_some rest hs]
    exact ih (startsBefore_some.2 (Nat.lt_succ_of_lt hs))
  | case5 i rest ih =>
    rw [scanCovers_false_none]
    exact ih (startsBefore_none _)
  | case6 i rest a ih =>
    rw [startsBefore_some] at hs
    simp [extractRuns, scanCovers_false_some, ih (startsBefore_none _), Nat.le_sub_one_iff_lt (Nat.zero_lt_of_lt hs)]

/-- Every run takes two cells, its first and the uncovered one after it, but for a last run that ends the line;
the run under way has its first cell behind the scan. -/
theorem two_mul_length_extractRuns_le (cells : List Bool) (i : Nat) (start : Option Nat) :
    2 * (extractRuns cells i start).length ≤ cells.length + 1 + start.toList.length := by
  induction cells, i, start using extractRuns.induct with
  | case1 => simp [extractRuns]
  | case2 => simp [extractRuns]
  | case3 i rest ih => simpa [extractRuns] using ih
  | case4 i rest a ih =>
    simp only [extractRuns, List.length_cons, Option.toList] at ih ⊢
    omega
  | case5 i rest ih =>
    simp only [extractRuns, List.length_cons, Option.toList] at ih ⊢
    omega
  | case6 i rest a ih =>
    simp only [extractRuns, List.length_cons, Option.toList] at ih ⊢
    omega

/-- Settles O10: the scan of a whole line starts at cell 0 with no run under way. -/
theorem runExtractionCoversTheCoveredCells : Obligations.RunExtractionCoversTheCoveredCells := by
  intro cells
  have hs : startsBefore 0 none := startsBefore_none 0
  refine ⟨fun r hr => ?_, extractRuns_separated hs, fun i => ?_, fun hlen => ?_⟩
  · obtain ⟨-, hle, hlast⟩ := extractRuns_bounds hs r hr
    exact ⟨hle, by simpa using hlast⟩
  · simp [mem_extractRuns_iff_scanCovers hs, scanCovers_none]
  · have := two_mul_length_extractRuns_le cells 0 none
    rw [hlen, Option.toList_none, List.length_nil] at this
    omega

end Sys2Proof.Machine

/-! Area and dimension figures (R62, R71 to R74). Each figure of a closed hide is a sum or an extent, scaled and
rounded half up by `halfUp`; the divisors here are a thousand and a million, whose halves are exact. The obligation
reads these figures off the fields that `measureHide` hands on. -/

namespace Sys2Proof.Machine

/-- From µm to mm (R71, R72). -/
theorem halfUp_thousand (n : Nat) : halfUp n 1000 = (n + 500) / 1000 := rfl

/-- From µm² to mm² (R62, R73). -/
theorem halfUp_million (n : Nat) : halfUp n 1000000 = (n + 500000) / 1000000 := rfl

theorem rawArea_eq (widthSum p : Nat) : rawArea widthSum p = (widthSum * p + 500000) / 1000000 :=
  halfUp_million _

theorem fillFigure_eq (fillSum p : Nat) : fillFigure fillSum p = (fillSum * p + 500000) / 1000000 :=
  halfUp_million _

theorem lengthFigure_eq (firstLine lastLine : Count) (p : Nat) :
    lengthFigure firstLine lastLine p = (((lastLine - firstLine).toNat + 1) * p + 500) / 1000 :=
  halfUp_thousand _

theorem widthFigure_eq (widths : List Nat) (left right : Nat) :
    widthFigure widths left right = ((widths.take (right + 1)).sum - (widths.take left).sum + 500) / 1000 :=
  halfUp_thousand _

/-- D counts to a line, modulo 2³² as every position is (R54, R106). -/
theorem hideLinePos_eq (c : Settings) (h : Hide) (line : Count) :
    hideLinePos c h line = h.firstPos + (line - h.firstLine) * BitVec.ofNat 32 c.lineInterval := rfl

/-- The closed hide with the pair of `saleFigure` taken apart: only the figure and the flags depend on whether the
hide is SMALL or OVER, and every other field is a formula of the hide and the settings. -/
theorem measureHide_eq (c : Settings) (widths : List Nat) (h : Hide) (raw : Nat) (flags : FlagSet) :
    measureHide c widths h raw flags =
      { tag := h.tag
        lane := h.lane
        flags := (saleFigure c (correctedArea raw c.gain) flags).2
        area := correctedArea raw c.gain
        figure := (saleFigure c (correctedArea raw c.gain) flags).1
        unit := c.saleUnit
        length := lengthFigure h.firstLine h.lastLine (pitch c)
        width := widthFigure widths h.left h.right
        fill := fillFigure h.fillSum (pitch c)
        pieces := h.pieces
        lastPos := hideLinePos c h h.lastLine
        spot := h.spot.state
        spotPos := hideLinePos c h h.spot.start } := rfl

/-- Settles O18: the raw area and the three dimensions by their rounding, the other fields as they are handed on. -/
theorem areaAndDimensionFigures : Obligations.AreaAndDimensionFigures := by
  intro c widths h raw flags p m
  rw [show m = _ from measureHide_eq c widths h raw flags]
  exact ⟨rawArea_eq _ _, lengthFigure_eq _ _ _, widthFigure_eq _ _ _, fillFigure_eq _ _, rfl, rfl, rfl, rfl,
    hideLinePos_eq c h h.lastLine, hideLinePos_eq c h h.spot.start⟩

end Sys2Proof.Machine

/-! Lot open and read (R157, R160). A request that a listening part receives is served with the request already in
the receive buffer, which neither LOT OPEN nor LOT READ looks at; so each row of their tables is one fact about
`serveLotOpen` or `serveLotRead` in any state, and `receive_answers` makes it a fact about the command. -/

namespace Sys2Proof.Machine

/-- The state with this telegram in the first place of the receive buffer (R184). -/
def State.inHand (s : State) (t : Telegram) : State := { s with cml := { s.cml with buffer := [t] } }

/-- A listening part serves a request at once, and its reply begins (R184, R185): what is served with the request in
hand is what the command answers. -/
theorem receive_answers {s s' : State} {tag : Byte} {r : Request} {a : Answer} (h : s.listening)
    (hserve : serve r (s.inHand ⟨tag, r⟩) = (s'.inHand ⟨tag, r⟩, a)) :
    unlessReset s (receive ⟨tag, r⟩) = .next (s'.answers tag r a) := by
  have hanswer : answer ⟨tag, r⟩ (s.inHand ⟨tag, r⟩) = s'.answers tag r a := by
    rw [answer, hserve]
    rfl
  rw [unlessReset_released h.1, receive_listening h]
  exact congrArg _ hanswer

/-! ### The slot a byte names -/

theorem placeOf_above {b : Byte} (h : 3 < b.toNat) : placeOf b = none :=
  dif_neg (Nat.not_lt.2 h)

theorem placeOf_of_toNat_eq {b : Byte} {i : Fin 4} (h : b.toNat = i.val) : placeOf b = some i := by
  have hlt : b.toNat < 4 := h ▸ i.isLt
  rw [placeOf, dif_pos hlt]
  exact congrArg some (Fin.ext h)

/-! ### LOT OPEN (R157) -/

/-- A lot number of 1 to 999,999 and a lane mask of 1 to 15. -/
def lotFits (number : BitVec 32) (mask : Byte) : Prop :=
  1 ≤ number.toNat ∧ number.toNat ≤ 999999 ∧ 1 ≤ mask.toNat ∧ mask.toNat ≤ 15

theorem exec_lotOpen (tag slot : Byte) (number : BitVec 32) (mask : Byte) (s : State) :
    exec (.lotOpen tag slot number mask) s = unlessReset s (receive ⟨tag, .lotOpen slot number mask⟩) := rfl

section LotOpen
variable {slot : Byte} {number : BitVec 32} {mask : Byte} {i : Fin 4} {s : State}

theorem serveLotOpen_above (h : placeOf slot = none) :
    serveLotOpen slot number mask s = (s, .refuse .range) := by
  simp only [serveLotOpen, h]

theorem serveLotOpen_not_free (h : placeOf slot = some i) (hstate : (s.tlu.lots.get i).state ≠ .free) :
    serveLotOpen slot number mask s = (s, .refuse .busy) := by
  simp only [serveLotOpen, h]
  exact if_pos hstate

theorem serveLotOpen_free_unfit (h : placeOf slot = some i) (hstate : (s.tlu.lots.get i).state = .free)
    (hfits : ¬ lotFits number mask) : serveLotOpen slot number mask s = (s, .refuse .range) := by
  simp only [serveLotOpen, h]
  rw [if_neg (not_not_intro hstate)]
  exact if_neg hfits

theorem serveLotOpen_free_fits (h : placeOf slot = some i) (hstate : (s.tlu.lots.get i).state = .free)
    (hfits : lotFits number mask) :
    serveLotOpen slot number mask s =
      (setLot i ⟨.opened, number.toNat, mask.toNat, 0, 0, 0, 0, false⟩ s, .ok []) := by
  simp only [serveLotOpen, h]
  rw [if_neg (not_not_intro hstate)]
  exact if_pos hfits

end LotOpen

/-! ### LOT READ (R160) -/

/-- A slot's lot record as LOT READ replies with it (R160, R205). -/
def Lot.record (l : Lot) : List Byte :=
  [l.state.code] ++ field 4 l.number ++ field 1 l.mask ++ field 2 l.hides ++ field 4 l.units
    ++ field 6 l.area ++ field 1 l.inFlight ++ [boolCode l.mark]

theorem exec_lotRead (tag slot : Byte) (s : State) :
    exec (.lotRead tag slot) s = unlessReset s (receive ⟨tag, .lotRead slot⟩) := rfl

theorem serveLotRead_above {slot : Byte} (s : State) (h : placeOf slot = none) :
    serveLotRead slot s = (s, .refuse .range) := by
  simp only [serveLotRead, h]

theorem serveLotRead_slot {slot : Byte} {i : Fin 4} (s : State) (h : placeOf slot = some i) :
    serveLotRead slot s = (s, .ok (s.tlu.lots.get i).record) := by
  simp only [serveLotRead, h]
  rfl

/-- Settles O35: each row of R157's table and R160's two cases by the fact of that row, with the request in hand. -/
theorem lotOpenAndRead : Obligations.LotOpenAndRead := by
  constructor
  · intro tag slot number mask s h
    rw [exec_lotOpen]
    refine ⟨fun habove => receive_answers h (serveLotOpen_above (placeOf_above habove)), fun i hslot => ?_⟩
    have hplace := placeOf_of_toNat_eq hslot
    exact ⟨fun hstate => receive_answers h (serveLotOpen_not_free hplace hstate),
      fun hstate hfits => receive_answers h (serveLotOpen_free_unfit hplace hstate hfits),
      fun hstate hfits => receive_answers h (serveLotOpen_free_fits hplace hstate hfits)⟩
  · intro tag slot s h
    rw [exec_lotRead]
    exact ⟨fun habove => receive_answers h (serveLotRead_above _ (placeOf_above habove)),
      fun i hslot => receive_answers h (serveLotRead_slot _ (placeOf_of_toNat_eq hslot))⟩

end Sys2Proof.Machine

/-! GET, and what a SET leaves in the settings (R187, R189). A write puts the number that its value codes into one
field, one place of it where the setting is one of four. Each code of R204 gives back the value it was read from, so
the setting reads back as written, and any other setting reads another field or another place of the same field. -/

namespace Sys2Proof.Machine

/-! ### GET (R189) -/

theorem exec_get (tag id : Byte) (s : State) :
    exec (.get tag id) s = unlessReset s (receive ⟨tag, .get id⟩) := rfl

theorem serveGet_unnamed {id : Byte} (s : State) (h : settingOf id = none) :
    serveGet id s = (s, .refuse .notFound) := by
  simp only [serveGet, h]

theorem serveGet_setting {id : Byte} {x : Setting} (s : State) (h : settingOf id = some x) :
    serveGet id s = (s, .ok (id :: bytes32 (BitVec.ofNat 32 (x.value s.settings)))) := by
  simp only [serveGet, h]

/-! ### The steps of a write (R187) -/

/-- A number that passes its range is handed on as it is. -/
theorem of_inRange {α : Type} {v lo hi : Nat} {f : Nat → Option α} {a : α}
    (h : (inRange v lo hi >>= f) = some a) : f v = some a := by
  obtain ⟨w, hw, ha⟩ := Option.bind_eq_some_iff.1 h
  obtain ⟨-, ⟨⟩⟩ := Option.ite_none_right_eq_some.1 hw
  exact ha

theorem checked_eq_some {α : Type} {b : Bool} {x a : α} : checked b x = some a ↔ b = true ∧ x = a := by
  rw [checked, Option.ite_none_right_eq_some, Option.some.injEq]

/-! ### The codes of R204: a value is given back by what was read from it -/

theorem toNat_of_switchOf {v : Nat} {b : Bool} (h : switchOf v = some b) : b.toNat = v := by
  unfold switchOf at h
  split at h <;> cases h <;> rfl

theorem code_of_saleUnitOf {v : Nat} {u : SaleUnit} (h : saleUnitOf v = some u) : u.code.toNat = v := by
  unfold saleUnitOf at h
  split at h <;> cases h <;> rfl

theorem code_of_roundingOf {v : Nat} {r : Rounding} (h : roundingOf v = some r) : r.code.toNat = v := by
  unfold roundingOf at h
  split at h <;> cases h <;> rfl

theorem code_of_targetModeOf {v : Nat} {m : TargetMode} (h : targetModeOf v = some m) : m.code.toNat = v := by
  unfold targetModeOf at h
  split at h <;> cases h <;> rfl

theorem laneHeadValue_of_laneHeadOf {v : Nat} {o : Option (Fin 4)} (h : laneHeadOf v = some o) :
    laneHeadValue o = v := by
  unfold laneHeadOf at h
  split at h
  · cases h
    rfl
  · obtain ⟨hv, ho⟩ := Option.ite_none_right_eq_some.1 h
    cases ho
    exact hv.symm

/-- The three fields of a lane window are the digits of its value. -/
theorem windowValue_of_windowOf {v : Nat} {w : Window} (h : windowOf v = some w) : windowValue w = v := by
  obtain ⟨hv, hw⟩ := Option.ite_none_right_eq_some.1 h
  cases hw
  have henabled : (decide (v / 2 ^ 24 = 1)).toNat = v / 2 ^ 24 := by
    obtain h0 | h1 : v / 2 ^ 24 = 0 ∨ v / 2 ^ 24 = 1 := by omega
    · rw [h0]
      rfl
    · rw [h1]
      rfl
  simp only [windowValue, henabled]
  omega

theorem toNat_of_divertMask {v : Nat} {c : Bool} (h : (decide (v < 2 ^ 16) && c) = true) :
    (BitVec.ofNat 16 v).toNat = v :=
  (BitVec.toNat_ofNat v 16).trans (Nat.mod_eq_of_lt (of_decide_eq_true (Bool.and_eq_true_iff.1 h).1))

/-- The mode and the number of a target are the digits of its value. -/
theorem targetOf_eq_some {v n : Nat} {m : TargetMode} (h : targetOf v = some (m, n)) :
    m.code.toNat = v / 2 ^ 24 ∧ n = v % 2 ^ 24 := by
  obtain ⟨m', hm, he⟩ := Option.map_eq_some_iff.1 h
  cases he
  exact ⟨code_of_targetModeOf hm, rfl⟩

/-- A target is held as it was written, but for the number under NONE (R153). -/
theorem targetValue_heldTarget {v n : Nat} {m : TargetMode} (h : targetOf v = some (m, n)) :
    targetValue (heldTarget m n) = if v / 2 ^ 24 = 2 then 2 * 2 ^ 24 else v := by
  obtain ⟨hm, rfl⟩ := targetOf_eq_some h
  cases m with
  | count | area =>
    rw [if_neg (by rw [← hm]; decide)]
    simp only [targetValue, heldTarget, hm]
    exact Nat.div_add_mod' v (2 ^ 24)
  | none =>
    have hnone : v / 2 ^ 24 = 2 := hm.symm
    rw [if_pos hnone]
    simp only [targetValue, heldTarget, hm, hnone, Nat.add_zero]

/-! ### The write of a setting (R187, R189) -/

section Written
variable {x y : Setting} {v : Nat} {c c' : Settings}

/-- By the code each value is read in: a number in its range is its own code, and a place of four reads as set. -/
theorem value_of_written (h : x.written v c = some c') (hx : ∀ l, x ≠ .target l) : x.value c' = v := by
  cases x with
  | stallTime | badLimit | bridge | minRun | stuckLimit | fill | closeGap | maxLines | leadIn | face | slip | gain
  | minArea | notice | attnThreshold =>
    cases of_inRange h
    rfl
  | encoderStep | lineInterval =>
    have hc := of_inRange h
    obtain ⟨-, rfl⟩ := checked_eq_some.1 hc
    rfl
  | dropDistance l | footFirst l | footWidth l | headDistance l =>
    have hc := of_inRange h
    obtain ⟨-, rfl⟩ := checked_eq_some.1 hc
    exact Quad.get_set_same _ _ _
  | autoMask =>
    obtain ⟨b, hb, ⟨⟩⟩ := Option.bind_eq_some_iff.1 h
    exact toNat_of_switchOf hb
  | saleUnit =>
    obtain ⟨u, hu, ⟨⟩⟩ := Option.bind_eq_some_iff.1 h
    exact code_of_saleUnitOf hu
  | rounding =>
    obtain ⟨r, hr, ⟨⟩⟩ := Option.bind_eq_some_iff.1 h
    exact code_of_roundingOf hr
  | stamping l | gatePresent l =>
    obtain ⟨b, hb, ⟨⟩⟩ := Option.bind_eq_some_iff.1 h
    exact (congrArg Bool.toNat (Quad.get_set_same _ _ _)).trans (toNat_of_switchOf hb)
  | window l =>
    obtain ⟨w, hw, hc⟩ := Option.bind_eq_some_iff.1 h
    obtain ⟨-, rfl⟩ := checked_eq_some.1 hc
    exact (congrArg windowValue (Quad.get_set_same _ _ _)).trans (windowValue_of_windowOf hw)
  | laneHead l =>
    obtain ⟨o, ho, hc⟩ := Option.bind_eq_some_iff.1 h
    obtain ⟨-, rfl⟩ := checked_eq_some.1 hc
    exact (congrArg laneHeadValue (Quad.get_set_same _ _ _)).trans (laneHeadValue_of_laneHeadOf ho)
  | divertMask l =>
    obtain ⟨hv, rfl⟩ := checked_eq_some.1 h
    exact (congrArg BitVec.toNat (Quad.get_set_same _ _ _)).trans (toNat_of_divertMask hv)
  | target l => exact absurd rfl (hx l)

theorem value_of_written_target {l : Fin 4} (h : (Setting.target l).written v c = some c') :
    (Setting.target l).value c' = if v / 2 ^ 24 = 2 then 2 * 2 ^ 24 else v := by
  obtain ⟨⟨m, n⟩, hmn, hc⟩ := Option.bind_eq_some_iff.1 h
  obtain ⟨-, rfl⟩ := checked_eq_some.1 hc
  exact (congrArg targetValue (Quad.get_set_same _ _ _)).trans (targetValue_heldTarget hmn)

/-- A setting of another kind reads another field, which the write leaves alone; one of the same kind is that of
another lane or head and reads another place. -/
theorem value_of_written_other (h : x.written v c = some c') (hy : y ≠ x) : y.value c' = y.value c := by
  cases x with
  | stallTime | badLimit | bridge | minRun | stuckLimit | fill | closeGap | maxLines | leadIn | face | slip | gain
  | minArea | notice | attnThreshold | autoMask | saleUnit | rounding =>
    obtain ⟨w, -, ⟨⟩⟩ := Option.bind_eq_some_iff.1 h
    cases y <;> simp only [Setting.value]
    exact absurd rfl hy
  | encoderStep | lineInterval =>
    have hc := of_inRange h
    obtain ⟨-, rfl⟩ := checked_eq_some.1 hc
    cases y <;> simp only [Setting.value]
    exact absurd rfl hy
  | stamping l | gatePresent l =>
    obtain ⟨w, -, ⟨⟩⟩ := Option.bind_eq_some_iff.1 h
    cases y <;> simp only [Setting.value]
    next => rw [Quad.get_set_other _ _ (ne_of_apply_ne _ hy)]
  | window l | laneHead l | dropDistance l | footFirst l | footWidth l | headDistance l | target l =>
    obtain ⟨w, -, hc⟩ := Option.bind_eq_some_iff.1 h
    obtain ⟨-, rfl⟩ := checked_eq_some.1 hc
    cases y <;> simp only [Setting.value]
    next => rw [Quad.get_set_other _ _ (ne_of_apply_ne _ hy)]
  | divertMask l =>
    obtain ⟨-, rfl⟩ := checked_eq_some.1 h
    cases y <;> simp only [Setting.value]
    next => rw [Quad.get_set_other _ _ (ne_of_apply_ne _ hy)]

end Written

/-- Settles O47: a GET by the two cases of `serveGet`, and the write of a setting by what it leaves in that setting and
in every other. -/
theorem settingsReadBackAsWritten : Obligations.SettingsReadBackAsWritten := by
  refine ⟨fun tag id s h => ?_, fun x v c c' h =>
    ⟨value_of_written h, ?_, fun y hy => value_of_written_other h hy⟩⟩
  · rw [exec_get]
    exact ⟨fun hid => receive_answers h (serveGet_unnamed _ hid),
      fun x hid => receive_answers h (serveGet_setting _ hid)⟩
  · rintro l rfl
    exact value_of_written_target h

end Sys2Proof.Machine

/-! Record admission, FETCH and REARM (chapter 12). `offer_cases` says what admission can do; each of its three
outcomes follows from the bounds of R195 that shut the other two out. FETCH and REARM look at nothing of the Command
Link, so each of their rows is one fact about `serveFetch` or `serveRearm` in any state, and `receive_answers` makes
it a fact about the command. -/

namespace Sys2Proof.Machine

/-! ### Record admission (R195) -/

/-- Every record has a level from 1 to 7 (R194). -/
theorem Record.level_bounds (r : Record) : 1 ≤ r.level ∧ r.level ≤ 7 := by
  cases r with
  | hide h =>
    simp only [Record.level]
    split <;> decide
  | lineHeld | mode | cellStuck | tableFull | transitFull | stampMiss | headFault | ticket | packWait | calResult
  | scanLost | stall => simp only [Record.level, Nat.reduceLeDiff, and_self]

section Admission
variable {c : Settings} {r : Record} {q : Rpq}

theorem offer_discarded (hnotice : r.level ≤ c.notice) : q.offer c r = q := by
  obtain ⟨-, he⟩ | ⟨habove, -⟩ | ⟨habove, -⟩ := offer_cases c r q
  · exact he
  · exact absurd habove hnotice.not_gt
  · exact absurd habove hnotice.not_gt

theorem offer_lost (habove : c.notice < r.level)
    (hfull : (r.level ≤ 5 ∧ 28 ≤ q.queue.length) ∨ (6 ≤ r.level ∧ 32 ≤ q.queue.length)) :
    q.offer c r = { q with dropCount := bump q.dropCount } := by
  obtain ⟨hnotice, -⟩ | ⟨-, -, he⟩ | ⟨-, hroom, -⟩ := offer_cases c r q
  · exact absurd habove hnotice.not_gt
  · exact he
  · omega

theorem offer_admitted (habove : c.notice < r.level)
    (hroom : ¬((r.level ≤ 5 ∧ 28 ≤ q.queue.length) ∨ (6 ≤ r.level ∧ 32 ≤ q.queue.length))) :
    q.offer c r = { q with queue := q.queue ++ [r], attn := decide (c.attnThreshold < q.queue.length + 1) } := by
  obtain ⟨hnotice, -⟩ | ⟨-, hfull, -⟩ | ⟨-, -, he⟩ := offer_cases c r q
  · exact absurd habove hnotice.not_gt
  · exact absurd hfull hroom
  · exact he

end Admission

/-- A submission changes the Report Queue by its admission, and nothing else. -/
theorem submit_eq_of_offer {r : Record} {s : State} {q : Rpq} (h : s.rpq.offer s.settings r = q) :
    submit r s = { s with rpq := q } := by
  rw [submit, h]

/-- Settles O49: the bounds of the level table, and the three outcomes of admission. -/
theorem recordAdmission : Obligations.RecordAdmission := by
  intro r s lost
  exact ⟨r.level_bounds, fun hnotice => submit_eq_of_offer (offer_discarded hnotice),
    fun habove hfull => submit_eq_of_offer (offer_lost habove hfull),
    fun habove hroom => submit_eq_of_offer (offer_admitted habove hroom)⟩

/-! ### FETCH (R199, R200) -/

theorem exec_fetch (tag n : Byte) (s : State) : exec (.fetch tag n) s = unlessReset s (receive ⟨tag, .fetch n⟩) := rfl

theorem serveFetch_outside {n : Byte} (s : State) (h : ¬(1 ≤ n.toNat ∧ n.toNat ≤ 7)) :
    serveFetch n s = (s, .refuse .range) := if_neg h

theorem serveFetch_inside {n : Byte} (s : State) (h : 1 ≤ n.toNat ∧ n.toNat ≤ 7) :
    serveFetch n s =
      (evaluateAttn { s with rpq := { s.rpq with queue := s.rpq.queue.drop n.toNat, dropCount := 0 } },
        .ok (field 1 s.rpq.queue.length ++ field 2 s.rpq.dropCount ++ field 1 (s.rpq.queue.take n.toNat).length
          ++ (s.rpq.queue.take n.toNat).flatMap recordBytes)) := if_pos h

/-! ### REARM (R198) -/

theorem exec_rearm (tag kind : Byte) (s : State) :
    exec (.rearm tag kind) s = unlessReset s (receive ⟨tag, .rearm kind⟩) := rfl

theorem oneShotOf_other {kind : Byte} (htable : kind ≠ 5#8) (htransit : kind ≠ 6#8) : oneShotOf kind = none := by
  rw [oneShotOf, if_neg htable, if_neg htransit]

theorem rearmOther_refused {kind : Byte} (s : State) (h : oneShotOf kind = none) :
    serveRearm kind s = (s, .refuse .range) := by
  simp only [serveRearm, h]

theorem rearmOneShot_answered {kind : Byte} {k : OneShotKind} (s : State) (h : oneShotOf kind = some k) :
    serveRearm kind s =
      ({ s with rpq := s.rpq.setOneShot k ⟨true, 0⟩ }, .ok (field 2 (s.rpq.oneShot k).count)) := by
  simp only [serveRearm, h]

/-- Settles O50: the two cases of FETCH by its number, and of REARM by the mark its kind names, each with the request
in hand. -/
theorem fetchAndRearm : Obligations.FetchAndRearm := by
  constructor
  · intro tag n s h
    rw [exec_fetch]
    exact ⟨fun hout => receive_answers h (serveFetch_outside _ hout),
      fun hlow hhigh => receive_answers h (serveFetch_inside _ ⟨hlow, hhigh⟩)⟩
  · intro tag kind s h
    rw [exec_rearm]
    refine ⟨fun htable => ?_, fun htransit => ?_, fun htable htransit => ?_⟩
    · have hmark : oneShotOf kind = some .tableFull := htable ▸ rfl
      exact receive_answers h (rearmOneShot_answered _ hmark)
    · have hmark : oneShotOf kind = some .transitFull := htransit ▸ rfl
      exact receive_answers h (rearmOneShot_answered _ hmark)
    · exact receive_answers h (rearmOther_refused _ (oneShotOf_other htable htransit))

end Sys2Proof.Machine

/-! What a step can do, said once (section 0.7). A property of states is kept by every command when the effect of each
event keeps it, the effect of each request keeps it, and it does not look at the Command Link. The invariants of this
family are proved through these lists of effects, one small fact per effect. -/

namespace Sys2Proof.Machine

/-! ### The queue of commands (section 0.5) -/

theorem step_pending_nil {s : State} (h : s.pending = []) : step s = .next s := by
  simp only [step, h]

theorem step_pending_cons {s : State} {c : Instr} {rest : List Instr} (h : s.pending = c :: rest) :
    step s = exec c { s with pending := rest } := by
  simp only [step, h]

/-- Settles O1: the front command is taken by the second case of `step`. -/
theorem stepRunsTheFrontCommand : Obligations.StepRunsTheFrontCommand := fun _ _ => step_pending_cons rfl

/-! ### Effects that keep a property -/

/-- The effect keeps the property, from every state in which the reset input is released. -/
def KeptBy (P : State → Prop) (f : State → State) : Prop :=
  ∀ s : State, s.pins.resetAsserted = false → P s → P (f s)

/-- The effect keeps the property from every state. -/
def KeptAlways (P : State → Prop) (f : State → State) : Prop := ∀ s : State, P s → P (f s)

theorem KeptAlways.keptBy {P : State → Prop} {f : State → State} (h : KeptAlways P f) : KeptBy P f := fun s _ => h s

/-- A fold of effects that each keep a property keeps it. -/
theorem KeptAlways.foldl {α : Type} {P : State → Prop} {f : State → α → State}
    (hf : ∀ a, KeptAlways P (fun s => f s a)) (l : List α) : KeptAlways P (fun s => l.foldl f s) := by
  intro s hs
  induction l generalizing s with
  | nil => exact hs
  | cons a l ih => exact ih _ (hf a s hs)

/-- The property does not look at the Command Link. -/
def BlindToCml (P : State → Prop) : Prop := ∀ k, KeptAlways P (State.withLink k)

/-- The property does not look at the queue or the Command Link. -/
structure BlindToLink (P : State → Prop) : Prop where
  pending : ∀ l, KeptAlways P (fun s => { s with pending := l })
  link : BlindToCml P

/-- Every request that changes something outside the Command Link keeps the property. -/
structure KeptByRequests (P : State → Prop) : Prop where
  set : ∀ (x : Setting) (v : Nat) (c : Settings) (s : State), s.pins.resetAsserted = false → P s →
    x.when.met s = true → x.written v s.settings = some c → P (afterWrite x { s with settings := c })
  widths : ∀ (start : Nat) (ws : List Nat) (s : State), P s → idleNoHide s = true → start + ws.length ≤ 1024 →
    (∀ w ∈ ws, 1000 ≤ w ∧ w ≤ 8000) →
    P { s with lcn := { s.lcn with widths := s.lcn.widths.take start ++ ws ++ s.lcn.widths.drop (start + ws.length) } }
  maskAdd : ∀ (i : Nat) (s : State), P s → i < 1024 → i ∉ s.lcn.mask → s.lcn.mask.length < 32 →
    P { s with lcn := { s.lcn with mask := insertIndex i s.lcn.mask } }
  maskDrop : ∀ (i : Nat) (s : State), P s →
    P { s with lcn := { s.lcn with
      mask := s.lcn.mask.filter (fun j => !decide (j = i))
      counters := s.lcn.counters.set i 0
      marked := s.lcn.marked.filter (fun j => !decide (j = i)) } }
  start : KeptBy P (fun s => (serveStart s).1)
  pause : KeptBy P (fun s => (servePause s).1)
  resume : KeptBy P (fun s => (serveResume s).1)
  stop : KeptBy P (fun s => (serveStop s).1)
  clear : KeptBy P (fun s => (serveClear s).1)
  calib : ∀ aRef, KeptBy P (fun s => (serveCalib aRef s).1)
  fetch : ∀ n : Nat, KeptAlways P
    (fun s => evaluateAttn { s with rpq := { s.rpq with queue := s.rpq.queue.drop n, dropCount := 0 } })
  rearm : ∀ k, KeptAlways P (fun s => { s with rpq := s.rpq.setOneShot k ⟨true, 0⟩ })
  ticket : ∀ (t : Ticket) (rest : List Ticket) (s : State), P s → s.tlu.tickets = t :: rest →
    P (waiterService { s with tlu := { s.tlu with tickets := rest } })
  packClose : ∀ (lane : Fin 4) (s : State), P s → (s.tlu.packs.get lane).state = .opened → P (closePack lane .host s)
  target : ∀ (lane : Fin 4) (t : Target) (s : State), P s → t.valid → P (writeTarget lane t s)
  lotOpen : ∀ (slot : Fin 4) (number mask : Nat) (s : State), P s → (s.tlu.lots.get slot).state = .free →
    P (setLot slot ⟨.opened, number, mask, 0, 0, 0, 0, false⟩ s)
  lotClose : ∀ (slot : Fin 4) (s : State), P s → (s.tlu.lots.get slot).state = .opened →
    P (setLot slot { s.tlu.lots.get slot with state := .closing } s)
      ∧ ((s.tlu.lots.get slot).inFlight = 0 →
        P (closeLot slot (setLot slot { s.tlu.lots.get slot with state := .closing } s)))
  headClear : ∀ (h : Fin 4) (s : State), P s → (s.stc.get h).state = .fault →
    P (armingCheck h (setChannel h ((s.stc.get h).release .idle) s))
  reset : KeptAlways P softBlocks

/-- Every event that is no encoder change, no full reset and no request keeps the property. -/
structure KeptByEvents (P : State → Prop) : Prop where
  beltLevel : ∀ (b : Bool) (s : State), s.pins.resetAsserted = true → P s →
    P { s with pins := { s.pins with beltRun := b } }
  release : KeptAlways P (fun s => { s with pins := { s.pins with resetAsserted := false } })
  beltAssert : KeptBy P beltRunAsserts
  beltDeassert : KeptBy P beltRunDeasserts
  stall : KeptBy P stallExpires
  lineFrame : ∀ frame, KeptBy P (lineFrameArrives frame)
  scanBytes : ∀ bytes, KeptAlways P (fun s => { s with slr := { s.slr with gathered := bytes } })
  calEnd : KeptBy P calibrationEnds
  ready : ∀ h tag, KeptAlways P (acceptReady h tag)
  done : ∀ h tag, KeptAlways P (acceptDone h tag)
  headFault : ∀ h cause, KeptAlways P (headFault h cause)
  headBytes : ∀ h bytes, KeptAlways P (setGathered h bytes)
  gatePulse : ∀ lane, KeptAlways P (closeGate lane)
  packChange : ∀ lane, KeptAlways P (packChangeExpires lane)

/-- Encoder changes keep the property: the levels alone while the reset input is asserted (R203). -/
structure KeptByEncoder (P : State → Prop) : Prop where
  levels : ∀ (a b : Bool) (s : State), s.pins.resetAsserted = true → P s →
    P { s with pins := { s.pins with encoderA := a, encoderB := b } }
  changes : ∀ a b, KeptBy P (encoderChanges a b)

section Kept
variable {P : State → Prop}

/-! ### Requests (R186) -/

theorem KeptByRequests.serveSet (K : KeptByRequests P) (id : Byte) (value : BitVec 32) :
    KeptBy P (fun s => (serveSet id value s).1) := by
  intro s hrel hs
  simp only [Machine.serveSet]
  split
  · exact hs
  · rename_i x _
    split
    · rename_i hmet
      split
      · exact hs
      · rename_i c hc
        exact K.set x _ c s hrel hs hmet hc
    · exact hs

theorem KeptByRequests.serveWidthsLoad (K : KeptByRequests P) (start : BitVec 16) (widths : List (BitVec 16)) :
    KeptBy P (fun s => (serveWidthsLoad start widths s).1) := by
  intro s _ hs
  simp only [Machine.serveWidthsLoad]
  split
  · exact hs
  · rename_i hidle
    split
    · rename_i hfit
      refine K.widths start.toNat _ s hs (by simpa using hidle) hfit.1 (fun w hw => ?_)
      simpa using List.all_eq_true.1 hfit.2 w hw
    · exact hs

theorem KeptByRequests.serveMaskAdd (K : KeptByRequests P) (cell : BitVec 16) :
    KeptBy P (fun s => (serveMaskAdd cell s).1) := by
  intro s _ hs
  simp only [Machine.serveMaskAdd]
  split
  · exact hs
  · split
    · exact hs
    · rename_i hrange
      split
      · exact hs
      · rename_i hnew
        split
        · exact hs
        · rename_i hroom
          exact K.maskAdd _ s hs (Nat.lt_of_not_le hrange) hnew (Nat.lt_of_not_le hroom)

theorem KeptByRequests.serveMaskDrop (K : KeptByRequests P) (cell : BitVec 16) :
    KeptBy P (fun s => (serveMaskDrop cell s).1) := by
  intro s _ hs
  simp only [Machine.serveMaskDrop]
  split
  · exact hs
  · split
    · exact hs
    · split
      · exact K.maskDrop _ s hs
      · exact hs

theorem KeptByRequests.serveFetch (K : KeptByRequests P) (n : Byte) : KeptBy P (fun s => (serveFetch n s).1) := by
  intro s _ hs
  simp only [Machine.serveFetch]
  split
  · exact K.fetch _ s hs
  · exact hs

theorem KeptByRequests.serveRearm (K : KeptByRequests P) (kind : Byte) :
    KeptBy P (fun s => (serveRearm kind s).1) := by
  intro s _ hs
  simp only [Machine.serveRearm]
  split
  · exact hs
  · exact K.rearm _ s hs

theorem KeptByRequests.serveTicket (K : KeptByRequests P) : KeptBy P (fun s => (serveTicket s).1) := by
  intro s _ hs
  simp only [Machine.serveTicket]
  split
  · exact hs
  · rename_i t rest ht
    exact K.ticket t rest s hs ht

theorem PackState.eq_opened_of_ne_wait {p : PackState} (h : p ≠ .wait) : p = .opened := by
  cases p
  · rfl
  · exact absurd rfl h

theorem KeptByRequests.servePackClose (K : KeptByRequests P) (lane : Byte) :
    KeptBy P (fun s => (servePackClose lane s).1) := by
  intro s _ hs
  simp only [Machine.servePackClose]
  split
  · exact hs
  · split
    · exact hs
    · split
      · exact hs
      · rename_i hstate
        exact K.packClose _ s hs (PackState.eq_opened_of_ne_wait hstate)

/-- A value in range for its mode is held as a target in range (R153). -/
theorem heldTarget_valid {m : TargetMode} {v : Nat} (h : targetInRange m v = true) : (heldTarget m v).valid := by
  cases m with
  | count => exact .inl ⟨rfl, of_decide_eq_true h⟩
  | area => exact .inr (.inl ⟨rfl, of_decide_eq_true h⟩)
  | none => exact .inr (.inr ⟨rfl, rfl⟩)

theorem KeptByRequests.servePackTarget (K : KeptByRequests P) (lane mode : Byte) (value : BitVec 32) :
    KeptBy P (fun s => (servePackTarget lane mode value s).1) := by
  intro s _ hs
  simp only [Machine.servePackTarget]
  split
  · split
    · rename_i hrange
      exact K.target _ _ s hs (heldTarget_valid hrange)
    · exact hs
  · exact hs

theorem KeptByRequests.serveLotOpen (K : KeptByRequests P) (slot : Byte) (number : BitVec 32) (mask : Byte) :
    KeptBy P (fun s => (serveLotOpen slot number mask s).1) := by
  intro s _ hs
  simp only [Machine.serveLotOpen]
  split
  · exact hs
  · split
    · exact hs
    · rename_i hfree
      split
      · exact K.lotOpen _ _ _ s hs (not_not.1 hfree)
      · exact hs

theorem KeptByRequests.serveLotClose (K : KeptByRequests P) (slot : Byte) :
    KeptBy P (fun s => (serveLotClose slot s).1) := by
  intro s _ hs
  simp only [Machine.serveLotClose]
  split
  · exact hs
  · rename_i i _
    split
    · rename_i hopen
      obtain ⟨hclosing, hclose⟩ := K.lotClose i s hs hopen
      split
      · rename_i hempty
        exact hclose hempty
      · exact hclosing
    · exact hs

theorem KeptByRequests.serveLotRead (slot : Byte) (s : State) : (serveLotRead slot s).1 = s := by
  simp only [Machine.serveLotRead]
  split <;> rfl

theorem KeptByRequests.serveGet (id : Byte) (s : State) : (serveGet id s).1 = s := by
  simp only [Machine.serveGet]
  split <;> rfl

theorem KeptByRequests.serveWidthsRead (start : BitVec 16) (count : Byte) (s : State) :
    (serveWidthsRead start count s).1 = s := by
  simp only [Machine.serveWidthsRead]
  split <;> rfl

theorem KeptByRequests.serveHeadClear (K : KeptByRequests P) (head : Option (Fin 4)) :
    KeptBy P (fun s => (serveHeadClear head s).1) := by
  intro s _ hs
  cases head with
  | none => exact hs
  | some h =>
    simp only [Machine.serveHeadClear]
    split
    · rename_i hfault
      exact K.headClear h s hs hfault
    · exact hs

theorem softReset_eq (s : State) :
    softReset s = (softBlocks s).withLink { s.cml with linkErrors := 0, buffer := s.cml.buffer.take 1 } := rfl

/-- A request carried out by its owner keeps what every request keeps (R186). -/
theorem KeptByRequests.serve_of_ne_reset (K : KeptByRequests P) {r : Request} (hr : r ≠ .reset) :
    KeptBy P (fun s => (serve r s).1) := by
  intro s hrel hs
  cases r with
  | status | maskList | unknown | badFormat => exact hs
  | set id value => exact K.serveSet id value s hrel hs
  | get id =>
    show P (Machine.serveGet id s).1
    rwa [KeptByRequests.serveGet]
  | widthsLoad first widths => exact K.serveWidthsLoad first widths s hrel hs
  | widthsRead first count =>
    show P (Machine.serveWidthsRead first count s).1
    rwa [KeptByRequests.serveWidthsRead]
  | maskAdd cell => exact K.serveMaskAdd cell s hrel hs
  | maskDrop cell => exact K.serveMaskDrop cell s hrel hs
  | start => exact K.start s hrel hs
  | pause => exact K.pause s hrel hs
  | resume => exact K.resume s hrel hs
  | stop => exact K.stop s hrel hs
  | clear => exact K.clear s hrel hs
  | calib aRef => exact K.calib aRef s hrel hs
  | fetch n => exact K.serveFetch n s hrel hs
  | rearm kind => exact K.serveRearm kind s hrel hs
  | ticket => exact K.serveTicket s hrel hs
  | packClose lane => exact K.servePackClose lane s hrel hs
  | packTarget lane mode value => exact K.servePackTarget lane mode value s hrel hs
  | lotOpen slot number mask => exact K.serveLotOpen slot number mask s hrel hs
  | lotClose slot => exact K.serveLotClose slot s hrel hs
  | lotRead slot =>
    show P (Machine.serveLotRead slot s).1
    rwa [KeptByRequests.serveLotRead]
  | headClear head => exact K.serveHeadClear (placeOf head) s hrel hs
  | reset => exact absurd rfl hr

theorem KeptByRequests.serve (K : KeptByRequests P) (B : BlindToCml P) (r : Request) :
    KeptBy P (fun s => (serve r s).1) := by
  by_cases hr : r = .reset
  · rw [hr]
    exact fun s _ hs => B _ _ (K.reset s hs)
  · exact K.serve_of_ne_reset hr

/-! ### The Command Link (R182 to R185) -/

section Link
variable (K : KeptByRequests P) (B : BlindToCml P)
include K B

theorem answer_kept (t : Telegram) : KeptBy P (answer t) :=
  fun s hrel hs => B _ _ (K.serve B t.request s hrel hs)

theorem takeRequest_kept : KeptBy P takeRequest := by
  intro s hrel hs
  unfold takeRequest
  split
  · exact answer_kept K B _ s hrel hs
  · exact hs
  · exact hs

theorem receive_kept (t : Telegram) : KeptBy P (receive t) := by
  intro s hrel hs
  unfold receive
  split
  · exact takeRequest_kept K B _ hrel (B _ s hs)
  · exact B _ s hs

theorem replyCompletes_kept : KeptBy P replyCompletes := by
  intro s hrel hs
  unfold replyCompletes
  split
  · exact hs
  · exact takeRequest_kept K B _ hrel (B _ s hs)

theorem telegramArrives_kept (bytes : List Byte) : KeptBy P (telegramArrives bytes) := by
  intro s hrel hs
  unfold telegramArrives
  simp only
  split
  · split
    · exact receive_kept K B _ s hrel hs
    · exact hs
  · exact B _ s hs

theorem hostByteArrives_kept (b : Byte) (stopBit : Bool) : KeptBy P (hostByteArrives b stopBit) := by
  intro s hrel hs
  unfold hostByteArrives
  split
  · split
    · exact B _ s hs
    · exact hs
  · split
    · unfold gatherByte
      split
      · split
        · exact B _ s hs
        · exact B _ _ (B _ s hs)
      · simp only
        split
        · exact telegramArrives_kept K B _ _ hrel (B _ s hs)
        · exact B _ s hs
    · exact B _ _ (B _ s hs)

omit K in
theorem byteGapExpires_kept : KeptBy P byteGapExpires := by
  intro s _ hs
  unfold byteGapExpires
  split
  · exact hs
  · exact B _ _ (B _ s hs)

end Link

/-! ### The scan head link and the head links (R203, R209) -/

theorem KeptByEvents.scanByteArrives (K : KeptByEvents P) (b : Byte) : KeptBy P (scanByteArrives b) := by
  intro s hrel hs
  unfold Machine.scanByteArrives
  split
  · split
    · exact K.scanBytes _ s hs
    · exact hs
  · simp only
    split
    · exact K.lineFrame _ _ hrel (K.scanBytes _ s hs)
    · exact K.scanBytes _ s hs

theorem KeptByEvents.acceptFault (K : KeptByEvents P) (h : Fin 4) (tag : Tag) (cause : Byte) :
    KeptAlways P (acceptFault h tag cause) := by
  intro s hs
  unfold Machine.acceptFault
  simp only
  split
  · exact K.headFault h _ s hs
  · exact hs

theorem KeptByEvents.headFrameArrives (K : KeptByEvents P) (h : Fin 4) (frame : List Byte) :
    KeptAlways P (headFrameArrives h frame) := by
  intro s hs
  unfold Machine.headFrameArrives
  split
  · simp only
    split
    · exact K.ready h _ s hs
    · split
      · exact K.done h _ s hs
      · exact hs
  · simp only
    split
    · exact K.acceptFault h _ _ s hs
    · exact hs
  · exact hs

theorem KeptByEvents.headByteArrives (K : KeptByEvents P) (h : Fin 4) (b : Byte) :
    KeptAlways P (headByteArrives h b) := by
  intro s hs
  unfold Machine.headByteArrives
  split
  · split
    · exact K.headBytes h _ s hs
    · exact hs
  · simp only
    split
    · split
      · exact K.headFrameArrives h _ _ (K.headBytes h _ s hs)
      · exact K.headBytes h _ s hs
    · exact K.headBytes h _ s hs

/-! ### Commands and steps -/

/-- A command that acts only while the reset input is released keeps what its effect keeps (R203). -/
theorem KeptBy.unlessReset {f : State → State} (h : KeptBy P f) {s t : State} (hs : P s)
    (ht : unlessReset s f = .next t) : P t := by
  cases hrel : s.pins.resetAsserted with
  | true =>
    rw [unlessReset_asserted hrel] at ht
    cases ht
    exact hs
  | false =>
    rw [unlessReset_released hrel] at ht
    cases ht
    exact h s hrel hs

theorem ite_kept {c : Prop} [Decidable c] {f : State → State} (h : KeptAlways P f) :
    KeptBy P (fun s => if c then f s else s) := by
  intro s _ hs
  show P (if c then f s else s)
  split
  · exact h s hs
  · exact hs

/-- The commands of the host line: its bytes, its timer, the end of a reply, and the requests. -/
def Instr.ofHost (c : Instr) : Bool :=
  match c with
  | .encoderStep _ _ | .beltRunAssert | .beltRunDeassert | .stallTimerExpiry | .lineFrame _ | .scanLinkGapTimeout
  | .calEnd | .ready _ _ _ | .done _ _ _ | .faultFrame _ _ _ _ | .headLinkGapTimeout _ | .armTimerExpiry _
  | .printTimerExpiry _ | .gatePulseTimerExpiry _ | .packChangeTimerExpiry _ | .fullReset _ _ | .scanLinkByte _
  | .headLinkByte _ _ | .resetInputRelease => false
  | .hostByte _ _ | .byteGapTimeout | .replySent | .requestUnknown _ _ _ | .status _ | .set _ _ _ | .get _ _
  | .widthsLoad _ _ _ | .widthsRead _ _ _ | .maskAdd _ _ | .maskDrop _ _ | .maskList _ | .start _ | .pause _
  | .resume _ | .stop _ | .clear _ | .calib _ _ | .fetch _ _ | .rearm _ _ | .ticket _ | .packClose _ _
  | .packTarget _ _ _ _ | .lotOpen _ _ _ _ | .lotClose _ _ | .lotRead _ _ | .headClear _ _ | .reset _ => true

/-- A command of the host line is a byte, an expiry of its timer, the end of a reply, or a request received. -/
theorem exec_host {c : Instr} (hc : Instr.ofHost c = true) : ∃ f, (∀ s, exec c s = unlessReset s f)
    ∧ ((∃ b stopBit, f = hostByteArrives b stopBit) ∨ f = byteGapExpires ∨ f = replyCompletes ∨ ∃ t, f = receive t) := by
  cases c with
  | hostByte b stopBit => exact ⟨_, fun _ => rfl, .inl ⟨b, stopBit, rfl⟩⟩
  | byteGapTimeout => exact ⟨_, fun _ => rfl, .inr (.inl rfl)⟩
  | replySent => exact ⟨_, fun _ => rfl, .inr (.inr (.inl rfl))⟩
  | requestUnknown | status | set | get | widthsLoad | widthsRead | maskAdd | maskDrop | maskList | start | pause
  | resume | stop | clear | calib | fetch | rearm | ticket | packClose | packTarget | lotOpen | lotClose | lotRead
  | headClear | reset => exact ⟨_, fun _ => rfl, .inr (.inr (.inr ⟨_, rfl⟩))⟩
  | _ => exact absurd hc nofun

/-- A command of the host line keeps what every request keeps. -/
theorem exec_host_kept (B : BlindToCml P) (R : KeptByRequests P) {c : Instr} (hc : Instr.ofHost c = true) {s t : State}
    (hs : P s) (ht : exec c s = .next t) : P t := by
  obtain ⟨f, hf, hkind⟩ := exec_host hc
  have hkept : KeptBy P f := by
    obtain ⟨b, stopBit, rfl⟩ | rfl | rfl | ⟨t, rfl⟩ := hkind
    · exact hostByteArrives_kept R B b stopBit
    · exact byteGapExpires_kept B
    · exact replyCompletes_kept R B
    · exact receive_kept R B t
  exact hkept.unlessReset hs (by rw [← hf]; exact ht)

/-- A command that is not of the host line keeps what every event and the encoder keep, and what a full reset
leaves. -/
theorem exec_event_kept (K : KeptByEvents P) {c : Instr} (hc : Instr.ofHost c = false)
    (E : (∃ a b, c = .encoderStep a b) → KeptByEncoder P)
    (F : (∃ cause strap, c = .fullReset cause strap) → ∀ cause strap, KeptAlways P (fullReset cause strap))
    {s t : State} (hs : P s) (ht : exec c s = .next t) : P t := by
  cases c with
  | encoderStep a b =>
    obtain ⟨hlevels, hchanges⟩ := E ⟨a, b, rfl⟩
    cases ht
    split
    · rename_i hrel
      exact hlevels a b s hrel hs
    · rename_i hrel
      exact hchanges a b s (by simpa using hrel) hs
  | beltRunAssert =>
    cases ht
    split
    · rename_i hrel
      exact K.beltLevel _ s hrel hs
    · rename_i hrel
      exact K.beltAssert s (by simpa using hrel) hs
  | beltRunDeassert =>
    cases ht
    split
    · rename_i hrel
      exact K.beltLevel _ s hrel hs
    · rename_i hrel
      exact K.beltDeassert s (by simpa using hrel) hs
  | fullReset cause strap =>
    cases ht
    exact F ⟨cause, strap, rfl⟩ cause strap s hs
  | resetInputRelease =>
    cases ht
    exact K.release s hs
  | stallTimerExpiry => exact K.stall.unlessReset hs ht
  | lineFrame frame => exact (K.lineFrame frame).unlessReset hs ht
  | scanLinkGapTimeout => exact (K.scanBytes []).keptBy.unlessReset hs ht
  | scanLinkByte b => exact (K.scanByteArrives b).unlessReset hs ht
  | calEnd => exact K.calEnd.unlessReset hs ht
  | ready head tag crc => exact (ite_kept (K.ready head tag)).unlessReset hs ht
  | done head tag crc => exact (ite_kept (K.done head tag)).unlessReset hs ht
  | faultFrame head tag cause crc => exact (ite_kept (K.acceptFault head tag cause)).unlessReset hs ht
  | headLinkGapTimeout head => exact (K.headBytes head []).keptBy.unlessReset hs ht
  | headLinkByte head b => exact (K.headByteArrives head b).keptBy.unlessReset hs ht
  | armTimerExpiry head =>
    refine KeptBy.unlessReset (fun u _ hu => ?_) hs ht
    unfold armExpires
    split
    · exact K.headFault head _ u hu
    · exact hu
  | printTimerExpiry head =>
    refine KeptBy.unlessReset (fun u _ hu => ?_) hs ht
    unfold printExpires
    split
    · exact K.headFault head _ u hu
    · exact hu
  | gatePulseTimerExpiry lane =>
    refine KeptBy.unlessReset (fun u _ hu => ?_) hs ht
    unfold gatePulseExpires
    split
    · exact K.gatePulse lane u hu
    · exact hu
  | packChangeTimerExpiry lane => exact (K.packChange lane).keptBy.unlessReset hs ht
  | _ => exact absurd hc nofun

/-- Every command keeps what every event, every request and the encoder keep, and what a full reset leaves. -/
theorem exec_kept (B : BlindToCml P) (R : KeptByRequests P) (K : KeptByEvents P) {c : Instr}
    (E : (∃ a b, c = .encoderStep a b) → KeptByEncoder P)
    (F : (∃ cause strap, c = .fullReset cause strap) → ∀ cause strap, KeptAlways P (fullReset cause strap))
    {s t : State} (hs : P s) (ht : exec c s = .next t) : P t := by
  cases hc : Instr.ofHost c with
  | true => exact exec_host_kept B R hc hs ht
  | false => exact exec_event_kept K hc E F hs ht

/-- A step keeps what every command keeps. -/
theorem step_kept (B : BlindToLink P) (R : KeptByRequests P) (K : KeptByEvents P) (E : KeptByEncoder P)
    (F : ∀ cause strap, KeptAlways P (fullReset cause strap)) {s t : State} (hs : P s) (ht : step s = .next t) :
    P t := by
  cases hp : s.pending with
  | nil =>
    rw [step_pending_nil hp] at ht
    cases ht
    exact hs
  | cons c rest =>
    rw [step_pending_cons hp] at ht
    exact exec_kept B.link R K (fun _ => E) (fun _ => F) (B.pending rest s hs) ht

end Kept

end Sys2Proof.Machine

/-! Belt travel and the measuring states, for a property that does not look at the Travel Counter, the Mode Controller
or the calibration. Lines, strobes, advances, faults and the requests of the Mode Controller are made of a few
operations that reach the other blocks: a record submitted, a run list taken, a line monitored, a close-all, and what
the heads and the drops do at an advance. -/

namespace Sys2Proof.Machine

/-- The operations that belt travel and changes of the measuring state are made of keep the property. -/
structure KeptByTravel (P : State → Prop) : Prop where
  pins : ∀ v, KeptAlways P (fun s => { s with pins := v })
  grid : ∀ g timer, KeptAlways P (fun s => { s with tcu := { s.tcu with grid := g, stallTimer := timer } })
  cal : ∀ v, KeptAlways P (fun s => { s with cal := v })
  mdc : ∀ v, KeptAlways P (fun s => { s with mdc := v })
  openChoices : ∀ n, KeptAlways P (fun s => { s with openChoices := n })
  slr : ∀ (v : Slr) (s : State), v.badCount ≤ max s.slr.badCount 15 → P s → P { s with slr := v }
  submit : ∀ r, KeptAlways P (submit r)
  line : ∀ line pos runs, KeptAlways P (trackLine line pos runs)
  monitor : ∀ line raw, KeptAlways P (stuckMonitor line raw)
  tracking : KeptAlways P trackingStart
  closeAll : ∀ flags, KeptAlways P (closeAll flags)
  stamps : ∀ h, KeptAlways P (stampAdvance h)
  drops : KeptAlways P dropAdvance

namespace KeptByTravel
variable {P : State → Prop} (K : KeptByTravel P)
include K

/-! ### Changes of the measuring state (R170 to R178) -/

theorem enterMode (m : Mode) (f : FaultCause) : KeptAlways P (enterMode m f) := fun s hs =>
  K.grid s.tcu.grid (freshStallTimer m s.pins.beltRun s.settings.stallTime) _ (K.mdc ⟨m, f⟩ s hs)

theorem changeMode (m : Mode) (f : FaultCause) (c : ModeCause) (n : Nat) : KeptAlways P (changeMode m f c n) :=
  fun s hs => K.submit _ _ (K.enterMode m f s hs)

theorem scanStart : KeptAlways P scanStart := fun s hs => K.slr _ s (Nat.zero_le _) hs

theorem scanEnd : KeptAlways P scanEnd := fun s hs => K.slr _ s (Nat.le_max_left _ _) hs

theorem gridStart : KeptAlways P gridStart := fun s hs => K.tracking _ (K.scanStart _ (K.grid _ _ s hs))

theorem gridRestart : KeptAlways P gridRestart := fun s hs => K.tracking _ (K.scanStart _ (K.grid _ _ s hs))

theorem abortCalibration : KeptAlways P abortCalibration := by
  intro s hs
  unfold Machine.abortCalibration
  split
  · exact K.cal _ _ (K.submit _ s hs)
  · exact K.cal _ s hs
  · exact K.cal _ s hs

theorem endMeasuring (flags : FlagSet) : KeptAlways P (endMeasuring flags) := by
  intro s hs
  have haborted : P (if s.mdc.mode = .calibrate then Machine.abortCalibration s else s) := by
    split
    · exact K.abortCalibration s hs
    · exact hs
  refine K.closeAll flags _ ?_
  split
  · exact K.scanEnd _ haborted
  · exact haborted

theorem faultRequest (f : FaultCause) (c : ModeCause) : KeptAlways P (faultRequest f c) := by
  intro s hs
  have hfault := K.changeMode .fault f c s.htk.table.length _ (K.endMeasuring (flagSet [.cut, .faulted]) s hs)
  unfold Machine.faultRequest
  split
  · exact hs
  · exact hs
  all_goals exact hfault

theorem calibrationEnds : KeptAlways P calibrationEnds := by
  intro s hs
  unfold Machine.calibrationEnds
  split
  · exact K.changeMode _ _ _ _ _ (K.cal _ _ (K.closeAll _ _ (K.scanEnd s hs)))
  · exact hs

theorem serveStart : KeptAlways P (fun s => (serveStart s).1) := by
  intro s hs
  simp only [Machine.serveStart]
  split
  · exact K.changeMode _ _ _ _ _ (K.gridStart s hs)
  · exact hs

theorem servePause : KeptAlways P (fun s => (servePause s).1) := by
  intro s hs
  simp only [Machine.servePause]
  split
  · exact K.changeMode _ _ _ _ _ (K.endMeasuring _ s hs)
  · exact hs

theorem serveResume : KeptAlways P (fun s => (serveResume s).1) := by
  intro s hs
  simp only [Machine.serveResume]
  split
  · exact K.changeMode _ _ _ _ _ (K.gridRestart s hs)
  · exact hs

theorem serveStop : KeptAlways P (fun s => (serveStop s).1) := by
  intro s hs
  simp only [Machine.serveStop]
  split
  · exact K.changeMode _ _ _ _ _ (K.endMeasuring _ s hs)
  · exact hs

theorem serveClear : KeptAlways P (fun s => (serveClear s).1) := by
  intro s hs
  simp only [Machine.serveClear]
  split
  · exact K.changeMode _ _ _ _ s hs
  · exact hs

theorem serveCalib (aRef : BitVec 32) : KeptAlways P (fun s => (serveCalib aRef s).1) := by
  intro s hs
  simp only [Machine.serveCalib]
  split
  · exact hs
  · split
    · exact K.changeMode _ _ _ _ _ (K.gridStart _ (K.cal _ s hs))
    · exact hs

/-! ### Lines (R13 to R17) -/

theorem handOnLine (line : Count) (raw : Readings) (mark : LineMark) : KeptAlways P (handOnLine line raw mark) := by
  intro s hs
  have htracked := K.line line (gridLinePos line s) (runList s.settings s.lcn raw) s hs
  cases mark with
  | accepted => exact K.monitor line raw _ htracked
  | held => exact htracked

theorem requestLine (n : Count) : KeptAlways P (requestLine n) := fun s hs =>
  K.slr _ _ (Nat.le_max_left _ _) (K.slr _ s (Nat.le_max_left _ _) hs)

theorem settleBadLine (m : Count) : KeptAlways P (settleBadLine m) := fun s hs =>
  K.slr _ _ (Nat.le_trans (Nat.min_le_right _ _) (Nat.le_max_right _ _))
    (K.submit _ _ (K.handOnLine _ _ _ _ (K.slr _ s (Nat.le_max_left _ _) hs)))

theorem scanLost (m : Count) : KeptAlways P (scanLost m) := by
  intro s hs
  have htold := K.submit (.scanLost m s.slr.badCount) s hs
  unfold Machine.scanLost
  simp only
  split
  · refine K.faultRequest _ _ _ ?_
    split
    · exact K.calibrationEnds _ (K.openChoices _ _ htold)
    · exact K.openChoices _ _ htold
  · exact K.faultRequest _ _ _ htold

theorem strobeArrives (n : Count) : KeptAlways P (strobeArrives n) := by
  intro s hs
  unfold Machine.strobeArrives
  split
  · split
    · exact K.requestLine n s hs
    · rename_i m _
      have hsettled := K.settleBadLine m s hs
      simp only
      split
      · exact K.scanLost m _ hsettled
      · exact K.requestLine n _ hsettled
  · exact hs

theorem lineAdvance : KeptAlways P lineAdvance := by
  intro s hs
  unfold Machine.lineAdvance
  split
  · exact hs
  · exact K.strobeArrives _ _ (K.grid _ _ s hs)

theorem lineFrameArrives (frame : List Byte) : KeptAlways P (lineFrameArrives frame) := by
  intro s hs
  unfold Machine.lineFrameArrives
  split
  · exact hs
  · split
    · exact K.handOnLine _ _ _ _ (K.slr _ s (Nat.zero_le _) hs)
    · exact hs

/-! ### Travel (R1 to R4) -/

theorem takeItem (i : DueItem) : KeptAlways P (fun s => takeItem s i) := by
  cases i with
  | line => exact K.lineAdvance
  | stamp h => exact K.stamps h
  | drops => exact K.drops

theorem takeDue : KeptAlways P takeDue := by
  intro s hs
  unfold Machine.takeDue
  split
  · exact hs
  · exact K.takeItem _ s hs
  · exact KeptAlways.foldl K.takeItem _ _ (K.openChoices _ s hs)

theorem encoderChanges (htcu : ∀ v, KeptAlways P (fun s => { s with tcu := v })) (a b : Bool) :
    KeptAlways P (encoderChanges a b) := by
  intro s hs
  have hleveled := K.pins { s.pins with encoderA := a, encoderB := b } s hs
  have hrestarted := htcu { s.tcu with stallTimer := s.tcu.stallTimer.map (fun _ => s.settings.stallTime) } _ hleveled
  unfold Machine.encoderChanges
  simp only
  split
  · exact hleveled
  · unfold stepForward
    simp only
    split
    · exact K.takeDue _ (htcu _ _ (htcu _ _ hrestarted))
    · exact htcu _ _ hrestarted
  · unfold stepBack
    split
    · exact htcu _ _ hrestarted
    · exact htcu _ _ hrestarted

theorem encoder (htcu : ∀ v, KeptAlways P (fun s => { s with tcu := v })) : KeptByEncoder P :=
  ⟨fun _ _ s _ hs => K.pins _ s hs, fun a b => (K.encoderChanges htcu a b).keptBy⟩

/-! ### The belt-run input and the stall timer (R10, R11) -/

theorem beltRunAsserts : KeptAlways P beltRunAsserts := by
  intro s hs
  unfold Machine.beltRunAsserts
  split
  · exact hs
  · exact K.grid _ _ _ (K.pins _ s hs)

theorem beltRunDeasserts : KeptAlways P beltRunDeasserts := fun s hs => K.grid _ _ _ (K.pins _ s hs)

theorem stallExpires : KeptAlways P stallExpires := by
  intro s hs
  unfold Machine.stallExpires
  split
  · exact hs
  · exact K.faultRequest _ _ _ (K.submit _ _ (K.grid _ _ s hs))

/-- The events of travel keep the property, so that of all events only those at the heads and at the lane outputs are
left (R109, R134, R150). -/
theorem events (ready : ∀ h tag, KeptAlways P (acceptReady h tag)) (done : ∀ h tag, KeptAlways P (acceptDone h tag))
    (fault : ∀ h cause, KeptAlways P (headFault h cause)) (bytes : ∀ h bytes, KeptAlways P (setGathered h bytes))
    (gate : ∀ lane, KeptAlways P (closeGate lane)) (change : ∀ lane, KeptAlways P (packChangeExpires lane)) :
    KeptByEvents P where
  beltLevel _ s _ hs := K.pins _ s hs
  release s hs := K.pins _ s hs
  beltAssert := K.beltRunAsserts.keptBy
  beltDeassert := K.beltRunDeasserts.keptBy
  stall := K.stallExpires.keptBy
  lineFrame frame := (K.lineFrameArrives frame).keptBy
  scanBytes _ s hs := K.slr _ s (Nat.le_max_left _ _) hs
  calEnd := K.calibrationEnds.keptBy
  ready := ready
  done := done
  headFault := fault
  headBytes := bytes
  gatePulse := gate
  packChange := change

end KeptByTravel

end Sys2Proof.Machine

/-! Settings stay in their ranges (section 11.4, R5, R188). A SET writes one setting after its range and its checks; a
calibration writes a gain in its range; a full reset writes the reset values; nothing else writes a setting. -/

namespace Sys2Proof.Machine

/-! ### The stuck monitor (R30, R31) -/

/-- The examination of the counters writes the mask list, the marked cells and the Report Queue, and nothing else
(R31). -/
theorem examineCells_eq (line : Count) (i : Nat) (counters : List Nat) (s : State) :
    ∃ mask marked rpq, examineCells line i counters s =
      { s with lcn := { s.lcn with mask := mask, marked := marked }, rpq := rpq } := by
  induction counters generalizing i s with
  | nil => exact ⟨_, _, _, rfl⟩
  | cons c rest ih =>
    unfold examineCells
    split
    · obtain ⟨mask, marked, rpq, h⟩ := ih (i + 1) (cellStuck line i c s)
      exact ⟨mask, marked, rpq, h⟩
    · exact ih (i + 1) s

/-- The stuck monitor writes the Line Conditioner but for the widths, and the Report Queue (R30, R31). -/
theorem stuckMonitor_eq (line : Count) (raw : Readings) (s : State) :
    ∃ mask marked rpq, stuckMonitor line raw s =
      { s with
        lcn := ⟨s.lcn.widths, mask, countCells raw 0 s.lcn.counters, marked⟩
        rpq := rpq } :=
  examineCells_eq line 0 _ _

/-! ### The write of a setting (R187, R188) -/

theorem inRange_bind_eq_some {α : Type} {v lo hi : Nat} {f : Nat → Option α} {a : α}
    (h : (inRange v lo hi >>= f) = some a) : lo ≤ v ∧ v ≤ hi ∧ f v = some a := by
  obtain ⟨w, hw, ha⟩ := Option.bind_eq_some_iff.1 h
  obtain ⟨⟨hlo, hhi⟩, ⟨⟩⟩ := Option.ite_none_right_eq_some.1 hw
  exact ⟨hlo, hhi, ha⟩

/-- What holds in every place holds in every place after one place is set to a value for which it holds. -/
theorem Quad.forall_get_set {α : Type} {Q : Fin 4 → α → Prop} {q : Quad α} {l : Fin 4} {v : α}
    (h : ∀ i, Q i (q.get i)) (hv : Q l v) : ∀ i, Q i ((q.set l v).get i) := by
  intro i
  by_cases hi : i = l
  · subst hi
    rwa [Quad.get_set_same]
  · rw [Quad.get_set_other q v hi]
    exact h i

theorem mem_fours (i : Fin 4) : i ∈ fours := by
  revert i
  decide

theorem all_fours {p : Fin 4 → Bool} (h : fours.all p = true) (i : Fin 4) : p i = true :=
  List.all_eq_true.1 h i (mem_fours i)

/-- Windows that do not overlap lie apart. -/
theorem apart_of_not_overlaps {a b : Window} (h : a.overlaps b = false) : a.last < b.first ∨ b.last < a.first := by
  simp only [Window.overlaps, decide_eq_false_iff_not, not_and_or, Nat.not_le] at h
  exact h.symm

theorem windowsApart_comm {a b : Window} (h : windowsApart a b) : windowsApart b a :=
  fun hb ha => (h ha hb).symm

/-- A window that fits, put in its lane, lies apart from every other window (R188). -/
theorem windowsApart_set {c : Settings} {l : Fin 4} {w : Window} (hfit : windowFits c l w = true)
    (h : ∀ i j, i ≠ j → windowsApart (c.window.get i) (c.window.get j)) :
    ∀ i j, i ≠ j → windowsApart ((c.window.set l w).get i) ((c.window.set l w).get j) := by
  have hnew (j : Fin 4) (hj : j ≠ l) : windowsApart w (c.window.get j) := by
    intro hw hj'
    simp only [windowFits, hw, Bool.not_true, Bool.false_or, Bool.and_eq_true] at hfit
    have hall := all_fours hfit.2 j
    simp only [hj, hj', decide_false, Bool.not_true, Bool.false_or, Bool.not_eq_true'] at hall
    exact apart_of_not_overlaps hall
  intro i j hij
  by_cases hi : i = l
  · subst hi
    rw [Quad.get_set_same, Quad.get_set_other _ _ hij.symm]
    exact hnew j hij.symm
  · by_cases hj : j = l
    · subst hj
      rw [Quad.get_set_same, Quad.get_set_other _ _ hi]
      exact windowsApart_comm (hnew i hi)
    · rw [Quad.get_set_other _ _ hi, Quad.get_set_other _ _ hj]
      exact h i j hij

/-- A drop distance that passes its check lies 100 mm beyond the head its lane names (R188). -/
theorem dropDistanceFits_iff {c : Settings} {o : Option (Fin 4)} {mm : Nat} :
    dropDistanceFits c o mm = true ↔ ∀ h ∈ o.toList, c.headDistance.get h + 100 ≤ mm := by
  cases o with
  | none => simp [dropDistanceFits]
  | some h => simp [dropDistanceFits, beyondHead]

/-- A head distance that passes its check keeps every lane that names the head 100 mm beyond it (R188). -/
theorem headDistanceFits_iff {c : Settings} {h : Fin 4} {mm : Nat} :
    headDistanceFits c h mm = true ↔ ∀ i, c.laneHead.get i = some h → mm + 100 ≤ c.dropDistance.get i := by
  have hall (p : Fin 4 → Bool) : fours.all p = true ↔ ∀ i, p i = true :=
    ⟨all_fours, fun h => List.all_eq_true.2 fun i _ => h i⟩
  simp only [headDistanceFits, hall, beyondHead, Bool.or_eq_true, Bool.not_eq_true', decide_eq_false_iff_not,
    decide_eq_true_eq, imp_iff_not_or]

/-- The write of a setting keeps every setting valid (R187, R188). -/
theorem written_valid {x : Setting} {v : Nat} {c c' : Settings} (h : x.written v c = some c') (hc : c.valid) :
    c'.valid := by
  obtain ⟨hnum, hlane, hhead, hwin⟩ := hc
  cases x with
  | stallTime | badLimit | bridge | minRun | stuckLimit | fill | closeGap | maxLines | leadIn | face | slip | gain
  | minArea | notice | attnThreshold =>
    obtain ⟨hlo, hhi, ⟨⟩⟩ := inRange_bind_eq_some h
    refine ⟨?_, hlane, hhead, hwin⟩
    dsimp only [Settings.numbersValid] at hnum ⊢
    omega
  | encoderStep | lineInterval =>
    obtain ⟨hlo, hhi, hck⟩ := inRange_bind_eq_some h
    obtain ⟨hpitch, rfl⟩ := checked_eq_some.1 hck
    have hpitch := of_decide_eq_true hpitch
    refine ⟨?_, hlane, hhead, hwin⟩
    dsimp only [Settings.numbersValid] at hnum ⊢
    omega
  | autoMask | saleUnit | rounding | stamping l | gatePresent l =>
    obtain ⟨w, -, ⟨⟩⟩ := Option.bind_eq_some_iff.1 h
    exact ⟨hnum, hlane, hhead, hwin⟩
  | window l =>
    obtain ⟨w, -, hck⟩ := Option.bind_eq_some_iff.1 h
    obtain ⟨hfit, rfl⟩ := checked_eq_some.1 hck
    obtain ⟨hline, hfit⟩ := Bool.and_eq_true_iff.1 hfit
    have horder : w.first ≤ w.last ∧ w.last ≤ 1023 :=
      ⟨of_decide_eq_true (Bool.and_eq_true_iff.1 hfit).1, (of_decide_eq_true hline).2⟩
    have hcells : ∀ i, ((c.window.set l w).get i).first ≤ ((c.window.set l w).get i).last
        ∧ ((c.window.set l w).get i).last ≤ 1023 :=
      Quad.forall_get_set (Q := fun _ (w : Window) => w.first ≤ w.last ∧ w.last ≤ 1023) (fun i => (hlane i).1) horder
    exact ⟨hnum, fun i => ⟨hcells i, (hlane i).2⟩, hhead, windowsApart_set hfit hwin⟩
  | laneHead l =>
    obtain ⟨o, -, hck⟩ := Option.bind_eq_some_iff.1 h
    obtain ⟨hfit, rfl⟩ := checked_eq_some.1 hck
    have hbeyond : ∀ i, ∀ h ∈ ((c.laneHead.set l o).get i).toList, c.headDistance.get h + 100 ≤ c.dropDistance.get i :=
      Quad.forall_get_set (Q := fun i (o : Option (Fin 4)) =>
          ∀ h ∈ o.toList, c.headDistance.get h + 100 ≤ c.dropDistance.get i)
        (fun i => (hlane i).2.2.2.1) (dropDistanceFits_iff.1 hfit)
    refine ⟨hnum, fun i => ?_, hhead, hwin⟩
    obtain ⟨hcells, hdrop, hmask, -, htarget⟩ := hlane i
    exact ⟨hcells, hdrop, hmask, hbeyond i, htarget⟩
  | dropDistance l =>
    obtain ⟨hlo, hhi, hck⟩ := inRange_bind_eq_some h
    obtain ⟨hfit, rfl⟩ := checked_eq_some.1 hck
    have hdrops : ∀ i, (500 ≤ (c.dropDistance.set l v).get i ∧ (c.dropDistance.set l v).get i ≤ 20000)
        ∧ ∀ h ∈ (c.laneHead.get i).toList, c.headDistance.get h + 100 ≤ (c.dropDistance.set l v).get i :=
      Quad.forall_get_set (Q := fun i mm => (500 ≤ mm ∧ mm ≤ 20000)
          ∧ ∀ h ∈ (c.laneHead.get i).toList, c.headDistance.get h + 100 ≤ mm)
        (fun i => ⟨(hlane i).2.1, (hlane i).2.2.2.1⟩) ⟨⟨hlo, hhi⟩, dropDistanceFits_iff.1 hfit⟩
    refine ⟨hnum, fun i => ?_, hhead, hwin⟩
    obtain ⟨hcells, -, hmask, -, htarget⟩ := hlane i
    exact ⟨hcells, (hdrops i).1, hmask, (hdrops i).2, htarget⟩
  | divertMask l =>
    obtain ⟨hfit, rfl⟩ := checked_eq_some.1 h
    have hmasks : ∀ i, (c.divertMask.set l (BitVec.ofNat 16 v)).get i &&& ~~~divertable = 0#16 :=
      Quad.forall_get_set (Q := fun _ m => m &&& ~~~divertable = 0#16) (fun i => (hlane i).2.2.1)
        (of_decide_eq_true (Bool.and_eq_true_iff.1 hfit).2)
    refine ⟨hnum, fun i => ?_, hhead, hwin⟩
    obtain ⟨hcells, hdrop, -, hbeyond, htarget⟩ := hlane i
    exact ⟨hcells, hdrop, hmasks i, hbeyond, htarget⟩
  | target l =>
    obtain ⟨⟨m, n⟩, -, hck⟩ := Option.bind_eq_some_iff.1 h
    obtain ⟨hfit, rfl⟩ := checked_eq_some.1 hck
    have htargets : ∀ i, ((c.target.set l (heldTarget m n)).get i).valid :=
      Quad.forall_get_set (Q := fun _ (t : Target) => t.valid) (fun i => (hlane i).2.2.2.2) (heldTarget_valid hfit)
    refine ⟨hnum, fun i => ?_, hhead, hwin⟩
    obtain ⟨hcells, hdrop, hmask, hbeyond, -⟩ := hlane i
    exact ⟨hcells, hdrop, hmask, hbeyond, htargets i⟩
  | footFirst l =>
    obtain ⟨hlo, hhi, hck⟩ := inRange_bind_eq_some h
    obtain ⟨hfit, rfl⟩ := checked_eq_some.1 hck
    have hfeet : ∀ i, 1 ≤ c.footWidth.get i ∧ c.footWidth.get i ≤ 32
        ∧ (c.footFirst.set l v).get i + c.footWidth.get i ≤ 1024 :=
      Quad.forall_get_set (Q := fun i f => 1 ≤ c.footWidth.get i ∧ c.footWidth.get i ≤ 32 ∧ f + c.footWidth.get i ≤ 1024)
        (fun i => (hhead i).2) (by have := (hhead l).2; have := of_decide_eq_true hfit; omega)
    exact ⟨hnum, hlane, fun i => ⟨(hhead i).1, hfeet i⟩, hwin⟩
  | footWidth l =>
    obtain ⟨hlo, hhi, hck⟩ := inRange_bind_eq_some h
    obtain ⟨hfit, rfl⟩ := checked_eq_some.1 hck
    have hfeet : ∀ i, 1 ≤ (c.footWidth.set l v).get i ∧ (c.footWidth.set l v).get i ≤ 32
        ∧ c.footFirst.get i + (c.footWidth.set l v).get i ≤ 1024 :=
      Quad.forall_get_set (Q := fun i w => 1 ≤ w ∧ w ≤ 32 ∧ c.footFirst.get i + w ≤ 1024)
        (fun i => (hhead i).2) (by have := of_decide_eq_true hfit; omega)
    exact ⟨hnum, hlane, fun i => ⟨(hhead i).1, hfeet i⟩, hwin⟩
  | headDistance l =>
    obtain ⟨hlo, hhi, hck⟩ := inRange_bind_eq_some h
    obtain ⟨hfit, rfl⟩ := checked_eq_some.1 hck
    have hdist : ∀ i, 200 ≤ (c.headDistance.set l v).get i ∧ (c.headDistance.set l v).get i ≤ 15000 :=
      Quad.forall_get_set (Q := fun _ mm => 200 ≤ mm ∧ mm ≤ 15000) (fun i => (hhead i).1) ⟨hlo, hhi⟩
    refine ⟨hnum, fun i => ?_, fun i => ⟨hdist i, (hhead i).2⟩, hwin⟩
    obtain ⟨hcells, hdrop, hmask, hbeyond, htarget⟩ := hlane i
    refine ⟨hcells, hdrop, hmask, fun h hh => ?_, htarget⟩
    by_cases hl : h = l
    · subst hl
      rw [Quad.get_set_same]
      exact headDistanceFits_iff.1 hfit i (Option.mem_toList.1 hh)
    · rw [Quad.get_set_other _ _ hl]
      exact hbeyond h hh

/-! ### The gain of a calibration (R81) -/

theorem gain_valid {c : Settings} {g : Nat} (hc : c.valid) (hg : 95000 ≤ g ∧ g ≤ 105000) :
    { c with gain := g }.valid := by
  obtain ⟨hnum, hrest⟩ := hc
  refine ⟨?_, hrest⟩
  dsimp only [Settings.numbersValid] at hnum ⊢
  omega

theorem judgeReference_valid (tag : Tag) (aRef raw : Nat) (flags : FlagSet) {s : State} (hs : s.settings.valid) :
    (judgeReference tag aRef raw flags s).settings.valid := by
  unfold judgeReference
  simp only
  split
  · exact hs
  · split
    · rename_i hg
      exact gain_valid hs hg
    · exact hs

/-- The settings of the state are valid. -/
def State.settingsValid (s : State) : Prop := s.settings.valid

theorem SameUpstream.settingsValid {s t : State} (h : SameUpstream s t) (hs : s.settingsValid) : t.settingsValid := by
  unfold State.settingsValid
  rw [h.settings]
  exact hs

theorem offerHide_settingsValid (tag : Tag) (raw : Nat) (flags : FlagSet) :
    KeptAlways State.settingsValid (fun s => (offerHide tag raw flags s).2) := by
  intro s hs
  simp only [offerHide]
  split
  · split
    · exact judgeReference_valid _ _ _ _ hs
    · exact hs
  · exact hs
  · exact hs

theorem areaTakes_settingsValid (h : Hide) : KeptAlways State.settingsValid (areaTakes h) := fun s hs =>
  (transitTakes_upstream _ _).settingsValid (offerHide_settingsValid _ _ _ s hs)

theorem handOnAll_settingsValid (hides : List Hide) : KeptAlways State.settingsValid (handOnAll hides) :=
  KeptAlways.foldl areaTakes_settingsValid hides

theorem trackLine_settingsValid (line pos : Count) (runs : List Run) :
    KeptAlways State.settingsValid (trackLine line pos runs) := by
  intro s hs
  unfold trackLine
  split
  · exact handOnAll_settingsValid _ _ ((reportTableFull_upstream _ _ _).settingsValid hs)
  · exact hs

theorem settingsValid_travel : KeptByTravel State.settingsValid where
  pins _ _ hs := hs
  grid _ _ _ hs := hs
  cal _ _ hs := hs
  mdc _ _ hs := hs
  openChoices _ _ hs := hs
  slr _ _ _ hs := hs
  submit _ _ hs := hs
  line := trackLine_settingsValid
  monitor line raw s hs := by
    obtain ⟨mask, marked, rpq, h⟩ := stuckMonitor_eq line raw s
    rw [h]
    exact hs
  tracking _ hs := hs
  closeAll flags s hs := handOnAll_settingsValid _ _ hs
  stamps h s hs := (stampAdvance_upstream h s).settingsValid hs
  drops s hs := (dropReached_upstream _ s).settingsValid hs

theorem packChangeExpires_upstream (lane : Fin 4) (s : State) : SameUpstream s (packChangeExpires lane s) := by
  unfold packChangeExpires
  split
  · exact ⟨rfl, rfl, rfl, rfl, rfl, rfl, rfl, rfl, rfl, rfl, rfl⟩
  · exact .refl s

theorem settingsValid_events : KeptByEvents State.settingsValid :=
  settingsValid_travel.events
    (ready := fun h tag s hs => (acceptReady_upstream h tag s).settingsValid hs)
    (done := fun h tag s hs => (acceptDone_upstream h tag s).settingsValid hs)
    (fault := fun h cause s hs => (headFault_upstream h cause s).settingsValid hs)
    (bytes := fun _ _ _ hs => hs)
    (gate := fun _ _ hs => hs)
    (change := fun lane s hs => (packChangeExpires_upstream lane s).settingsValid hs)

/-- What a written setting does at once reaches the lane outputs, the tally and the Report Queue only (R187). -/
theorem afterWrite_upstream (x : Setting) (s : State) : SameUpstream s (afterWrite x s) := by
  cases x with
  | gatePresent l =>
    simp only [afterWrite]
    split
    · exact .refl s
    · exact ⟨rfl, rfl, rfl, rfl, rfl, rfl, rfl, rfl, rfl, rfl, rfl⟩
  | attnThreshold => exact ⟨rfl, rfl, rfl, rfl, rfl, rfl, rfl, rfl, rfl, rfl, rfl⟩
  | target l => exact targetCheck_upstream l s
  | _ => exact .refl s

theorem target_valid {c : Settings} {l : Fin 4} {t : Target} (hc : c.valid) (ht : t.valid) :
    { c with target := c.target.set l t }.valid := by
  obtain ⟨hnum, hlane, hhead, hwin⟩ := hc
  have htargets : ∀ i, ((c.target.set l t).get i).valid :=
    Quad.forall_get_set (Q := fun _ (t : Target) => t.valid) (fun i => (hlane i).2.2.2.2) ht
  refine ⟨hnum, fun i => ?_, hhead, hwin⟩
  obtain ⟨hcells, hdrop, hmask, hbeyond, -⟩ := hlane i
  exact ⟨hcells, hdrop, hmask, hbeyond, htargets i⟩

theorem settingsValid_requests : KeptByRequests State.settingsValid where
  set x _ _ _ _ hs _ hw := (afterWrite_upstream x _).settingsValid (written_valid hw hs)
  widths _ _ _ hs _ _ _ := hs
  maskAdd _ _ hs _ _ _ := hs
  maskDrop _ _ hs := hs
  start := settingsValid_travel.serveStart.keptBy
  pause := settingsValid_travel.servePause.keptBy
  resume := settingsValid_travel.serveResume.keptBy
  stop := settingsValid_travel.serveStop.keptBy
  clear := settingsValid_travel.serveClear.keptBy
  calib aRef := (settingsValid_travel.serveCalib aRef).keptBy
  fetch _ _ hs := hs
  rearm _ _ hs := hs
  ticket _ _ _ hs _ := (waiterService_upstream _).settingsValid hs
  packClose _ _ hs _ := (closePack_upstream _ _ _).settingsValid hs
  target _ _ _ hs ht := (targetCheck_upstream _ _).settingsValid (target_valid hs ht)
  lotOpen _ _ _ _ hs _ := hs
  lotClose _ _ hs _ := ⟨hs, fun _ => (closeLot_upstream _ _).settingsValid hs⟩
  headClear _ _ hs _ := (armingCheck_upstream _ _).settingsValid hs
  reset _ hs := hs

/-- The reset values lie in their ranges (R190). -/
theorem settings_reset_valid : Settings.reset.valid :=
  ⟨by decide +kernel, by decide +kernel, by decide +kernel, by decide +kernel⟩

/-- Settles O54: no command but a SET, a calibration and a full reset writes a setting, and each of these writes it in
its range and after its checks. -/
theorem stepKeepsSettingsValid : Obligations.StepKeepsSettingsValid := fun _ _ hs ht =>
  step_kept (P := State.settingsValid) ⟨fun _ _ hs => hs, fun _ _ hs => hs⟩ settingsValid_requests
    settingsValid_events (settingsValid_travel.encoder fun _ _ hs => hs) (fun _ _ _ _ => settings_reset_valid) hs ht

end Sys2Proof.Machine

/-! The belt and its HWM (R1, R2). Only an encoder step moves the position or the HWM; a line strobe, the heads and the
drops at an advance leave both alone, and so does every other event and request. -/

namespace Sys2Proof.Machine

/-- The belt stands at this position under this HWM. -/
def State.beltAt (p h : Count) (s : State) : Prop := s.tcu.position = p ∧ s.tcu.hwm = h

section Belt
variable {p h : Count}

theorem SameUpstream.beltAt {s t : State} (u : SameUpstream s t) (hs : s.beltAt p h) : t.beltAt p h := by
  unfold State.beltAt
  rw [u.tcu]
  exact hs

theorem SameMeasuring.beltAt {s t : State} (u : SameMeasuring s t) (hs : s.beltAt p h) : t.beltAt p h := by
  unfold State.beltAt
  rw [u.tcu]
  exact hs

theorem beltAt_travel : KeptByTravel (State.beltAt p h) where
  pins _ _ hs := hs
  grid _ _ _ hs := hs
  cal _ _ hs := hs
  mdc _ _ hs := hs
  openChoices _ _ hs := hs
  slr _ _ _ hs := hs
  submit _ _ hs := hs
  line line pos runs s hs := by
    obtain ⟨htk, hm⟩ := lineTaken_measuring line pos runs s
    rw [trackLine_eq_lineTaken]
    exact hm.beltAt hs
  monitor line raw s hs := by
    obtain ⟨mask, marked, rpq, hm⟩ := stuckMonitor_eq line raw s
    rw [hm]
    exact hs
  tracking _ hs := hs
  closeAll flags s hs := (closeAll_measuring flags s).beltAt hs
  stamps head s hs := (stampAdvance_upstream head s).beltAt hs
  drops s hs := (dropReached_upstream _ s).beltAt hs

theorem beltAt_events : KeptByEvents (State.beltAt p h) :=
  beltAt_travel.events
    (ready := fun h tag s hs => (acceptReady_upstream h tag s).beltAt hs)
    (done := fun h tag s hs => (acceptDone_upstream h tag s).beltAt hs)
    (fault := fun h cause s hs => (headFault_upstream h cause s).beltAt hs)
    (bytes := fun _ _ _ hs => hs)
    (gate := fun _ _ hs => hs)
    (change := fun lane s hs => (packChangeExpires_upstream lane s).beltAt hs)

theorem beltAt_requests : KeptByRequests (State.beltAt p h) where
  set x _ _ _ _ hs _ _ := (afterWrite_upstream x _).beltAt hs
  widths _ _ _ hs _ _ _ := hs
  maskAdd _ _ hs _ _ _ := hs
  maskDrop _ _ hs := hs
  start := beltAt_travel.serveStart.keptBy
  pause := beltAt_travel.servePause.keptBy
  resume := beltAt_travel.serveResume.keptBy
  stop := beltAt_travel.serveStop.keptBy
  clear := beltAt_travel.serveClear.keptBy
  calib aRef := (beltAt_travel.serveCalib aRef).keptBy
  fetch _ _ hs := hs
  rearm _ _ hs := hs
  ticket _ _ _ hs _ := (waiterService_upstream _).beltAt hs
  packClose _ _ hs _ := (closePack_upstream _ _ _).beltAt hs
  target _ _ _ hs _ := (targetCheck_upstream _ _).beltAt hs
  lotOpen _ _ _ _ hs _ := hs
  lotClose _ _ hs _ := ⟨hs, fun _ => (closeLot_upstream _ _).beltAt hs⟩
  headClear _ _ hs _ := (armingCheck_upstream _ _).beltAt hs
  reset _ hs := hs

theorem takeDue_beltAt : KeptAlways (State.beltAt p h) takeDue := beltAt_travel.takeDue

end Belt

/-- Belt travel that R2 allows: the position within 2³¹ − 1 counts below the HWM, and the HWM where it was or one
count further. -/
def State.travelledFrom (hwm : Count) (t : State) : Prop :=
  t.depthBounded ∧ (t.tcu.hwm = hwm ∨ t.tcu.hwm = hwm + 1)

theorem State.beltAt.travelled {p h : Count} {t : State} (ht : t.beltAt p h) (hd : (h - p).toNat < 2 ^ 31) :
    t.travelledFrom h := by
  obtain ⟨rfl, rfl⟩ := ht
  exact ⟨hd, .inl rfl⟩

/-- A forward step: at depth 0 position and HWM rise together, and the events of the advance move neither (R2). -/
theorem stepForward_travelled {s : State} (hs : s.depthBounded) : (stepForward s).travelledFrom s.tcu.hwm := by
  have hdepth : (s.tcu.hwm - s.tcu.position).toNat < 2 ^ 31 := hs
  unfold stepForward Tcu.depth
  simp only
  split
  · obtain ⟨hp, hh⟩ := takeDue_beltAt (p := s.tcu.position + 1) (h := s.tcu.hwm + 1) { s with
      tcu := { s.tcu with position := s.tcu.position + 1, hwm := s.tcu.hwm + 1, direction := .forward } } ⟨rfl, rfl⟩
    refine ⟨?_, .inr hh⟩
    unfold hwmAdvance State.depthBounded
    rw [hp, hh]
    bv_omega
  · refine ⟨?_, .inl rfl⟩
    show (s.tcu.hwm - (s.tcu.position + 1)).toNat < 2 ^ 31
    bv_omega

/-- A backward step stops at depth 2³¹ − 1 (R2). -/
theorem stepBack_travelled {s : State} (hs : s.depthBounded) : (stepBack s).travelledFrom s.tcu.hwm := by
  have hdepth : (s.tcu.hwm - s.tcu.position).toNat < 2 ^ 31 := hs
  unfold stepBack Tcu.depth
  split
  · exact ⟨hdepth, .inl rfl⟩
  · refine ⟨?_, .inl rfl⟩
    show (s.tcu.hwm - (s.tcu.position - 1)).toNat < 2 ^ 31
    bv_omega

theorem encoderChanges_travelled (a b : Bool) {s : State} (hs : s.depthBounded) :
    (encoderChanges a b s).travelledFrom s.tcu.hwm := by
  unfold encoderChanges
  simp only
  split
  · exact ⟨hs, .inl rfl⟩
  · exact stepForward_travelled hs
  · exact stepBack_travelled hs

theorem execEncoderStep_travelled {a b : Bool} {s t : State} (hs : s.depthBounded)
    (ht : exec (.encoderStep a b) s = .next t) : t.travelledFrom s.tcu.hwm := by
  cases ht
  split
  · exact ⟨hs, .inl rfl⟩
  · exact encoderChanges_travelled a b hs

theorem exec_travelled {c : Instr} {s t : State} (hs : s.depthBounded) (ht : exec c s = .next t) :
    t.depthBounded ∧ (t.tcu.hwm = s.tcu.hwm ∨ t.tcu.hwm = s.tcu.hwm + 1 ∨ ∃ cause strap, c = .fullReset cause strap) := by
  by_cases hc : (∃ a b, c = .encoderStep a b) ∨ ∃ cause strap, c = .fullReset cause strap
  · obtain ⟨a, b, rfl⟩ | ⟨cause, strap, rfl⟩ := hc
    · obtain ⟨hd, hh⟩ := execEncoderStep_travelled hs ht
      exact ⟨hd, hh.elim .inl (fun h => .inr (.inl h))⟩
    · cases ht
      exact ⟨(by decide : (0#32 - 0#32).toNat < 2 ^ 31), .inr (.inr ⟨cause, strap, rfl⟩)⟩
  · obtain ⟨henc, hfull⟩ := not_or.1 hc
    have hbelt : t.beltAt s.tcu.position s.tcu.hwm :=
      exec_kept (fun _ _ hs => hs) beltAt_requests beltAt_events (fun h => absurd h henc)
        (fun h => absurd h hfull) ⟨rfl, rfl⟩ ht
    obtain ⟨hd, hh⟩ := hbelt.travelled hs
    exact ⟨hd, hh.elim .inl (fun h => .inr (.inl h))⟩

/-- Settles O56: an encoder step by the three cases of `encoderChanges`; every other command but a full reset leaves
the belt where it stands. -/
theorem stepKeepsTheDepth : Obligations.StepKeepsTheDepth := by
  intro s t hs ht
  cases hp : s.pending with
  | nil =>
    rw [step_pending_nil hp] at ht
    cases ht
    exact ⟨hs, .inl rfl⟩
  | cons c rest =>
    rw [step_pending_cons hp] at ht
    obtain ⟨hd, hh⟩ := exec_travelled (s := { s with pending := rest }) hs ht
    refine ⟨hd, hh.imp_right (Or.imp_right ?_)⟩
    rintro ⟨cause, strap, rfl⟩
    exact ⟨cause, strap, rest, rfl⟩

end Sys2Proof.Machine

/-! The marks that follow the measuring state (sections 1.4, 3.3, 5.1, 10.1). The output chain does not reach them. A line
taken leaves them as they are; an end of measuring clears them all; a start of measuring sets them all. -/

namespace Sys2Proof.Machine

/-! ### What leaves the marks alone -/

theorem SameUpstream.marksAgree {s t : State} (u : SameUpstream s t) (hs : s.marksAgree) : t.marksAgree := by
  unfold State.marksAgree
  rw [u.mdc, u.slr, u.htk, u.tcu, u.cal, u.pins]
  exact hs

/-- An offer takes a calibration from WAITING to ENDING at most, so one is outstanding after it exactly when one was
before (R77, R81). -/
theorem offerHide_cal (tag : Tag) (raw : Nat) (flags : FlagSet) (s : State) :
    (offerHide tag raw flags s).2.cal = .none ↔ s.cal = .none := by
  unfold offerHide
  split
  · rename_i a ha
    split
    · rw [ha]
      unfold judgeReference
      simp only
      split
      · simp
      · split <;> simp
    · exact Iff.rfl
  · exact Iff.rfl
  · exact Iff.rfl

theorem handOnAll_cal (hides : List Hide) (s : State) : (handOnAll hides s).cal = .none ↔ s.cal = .none := by
  unfold handOnAll
  induction hides generalizing s with
  | nil => exact Iff.rfl
  | cons h hs ih =>
    refine (ih (areaTakes h s)).trans ?_
    unfold areaTakes
    simp only
    rw [(transitTakes_upstream _ _).cal]
    exact offerHide_cal _ _ _ s

/-- While scanning, the marks agree whatever line is outstanding and whatever the table holds. -/
theorem marksAgree_scanning {s t : State} (hs : s.marksAgree) (hscan : s.mdc.mode.scans = true)
    (hpins : t.pins = s.pins) (hmdc : t.mdc = s.mdc) (hslr : t.slr.scanning = s.slr.scanning)
    (htrack : t.htk.tracking = s.htk.tracking) (htcu : t.tcu = s.tcu) (hcal : t.cal = .none ↔ s.cal = .none) :
    t.marksAgree := by
  obtain ⟨hcause, hscanning, htracking, hgrid, -, hcalib, htimer, hreset⟩ := hs
  unfold State.marksAgree
  rw [hpins, hmdc, hslr, htrack, htcu, hcal]
  exact ⟨hcause, hscanning, htracking, hgrid, fun h => absurd (hscan.symm.trans h) nofun, hcalib, htimer, hreset⟩

theorem trackLine_marksAgree (line pos : Count) (runs : List Run) :
    KeptAlways State.marksAgree (trackLine line pos runs) := by
  intro s hs
  cases htrack : s.htk.tracking with
  | false =>
    rw [trackLine_untracked line pos runs htrack]
    exact hs
  | true =>
    have hscan : s.mdc.mode.scans = true := by rw [← hs.2.2.1, htrack]
    have hm := trackLine_tracked line pos runs htrack
    refine marksAgree_scanning hs hscan hm.pins hm.mdc (by rw [hm.slr]) (by rw [hm.htk]) hm.tcu ?_
    unfold trackLine
    rw [if_pos htrack, handOnAll_cal, (reportTableFull_upstream _ _ _).cal]

theorem stuckMonitor_marksAgree (line : Count) (raw : Readings) :
    KeptAlways State.marksAgree (stuckMonitor line raw) := by
  intro s hs
  obtain ⟨mask, marked, rpq, h⟩ := stuckMonitor_eq line raw s
  rw [h]
  exact hs

theorem handOnLine_marksAgree (line : Count) (raw : Readings) (mark : LineMark) :
    KeptAlways State.marksAgree (handOnLine line raw mark) := by
  intro s hs
  have htracked := trackLine_marksAgree line (gridLinePos line s) (runList s.settings s.lcn raw) s hs
  cases mark with
  | accepted => exact stuckMonitor_marksAgree line raw _ htracked
  | held => exact htracked

/-! ### Ends of measuring (R55, R84, R171 to R176) -/

/-- In a measuring state that does not scan, the marks agree when scanning, tracking and the calibration have ended. -/
theorem marksAgree_ended {t : State} (hcause : t.mdc.cause = .none ↔ t.mdc.mode ≠ .fault)
    (hmode : t.mdc.mode.scans = false) (hscanning : t.slr.scanning = false) (hout : t.slr.outstanding = none)
    (htrack : t.htk.tracking = false) (htable : t.htk.table = []) (hshadow : t.htk.shadow = []) (hcal : t.cal = .none)
    (htimer : t.tcu.stallTimer.isSome = (t.mdc.mode.watched && t.pins.beltRun))
    (hreset : t.pins.resetAsserted = true → t.mdc.mode = .idle) : t.marksAgree :=
  ⟨hcause, hscanning.trans hmode.symm, htrack.trans hmode.symm, fun h => absurd (hmode.symm.trans h) nofun,
    fun _ => ⟨hout, htable, hshadow⟩,
    ⟨fun _ h => (by rw [h] at hmode; exact absurd hmode nofun), fun _ => hcal⟩, htimer, hreset⟩

theorem freshStallTimer_isSome (m : Mode) (beltRun : Bool) (time : Nat) :
    (freshStallTimer m beltRun time).isSome = (m.watched && beltRun) := by
  unfold freshStallTimer
  cases m.watched && beltRun <;> rfl

/-- The reset input is released in every measuring state but IDLE. -/
theorem released_of_marksAgree {s : State} (hs : s.marksAgree) (hmode : s.mdc.mode ≠ .idle) :
    s.pins.resetAsserted = false :=
  Bool.eq_false_iff.2 fun h => hmode (hs.2.2.2.2.2.2.2 h)

/-- A state in which no scan is under way and no calibration is outstanding: the close-all and the change of the
measuring state clear the other marks (R55, R178). -/
theorem marksAgree_changeMode_closeAll {s : State} (flags : FlagSet) {m : Mode} {f : FaultCause} (c : ModeCause)
    (n : Nat) (hcause : f = .none ↔ m ≠ .fault) (hmode : m.scans = false) (hscanning : s.slr.scanning = false)
    (hout : s.slr.outstanding = none) (hcal : s.cal = .none) (hreset : s.pins.resetAsserted = false) :
    (changeMode m f c n (closeAll flags s)).marksAgree := by
  have hm := closeAll_measuring flags s
  refine marksAgree_ended hcause hmode ?_ ?_ ?_ ?_ ?_ ?_ (freshStallTimer_isSome _ _ _) (fun h => ?_)
  · rw [changeMode_slr, hm.slr]
    exact hscanning
  · rw [changeMode_slr, hm.slr]
    exact hout
  · rw [changeMode_htk, hm.htk]
  · rw [changeMode_htk, hm.htk]
  · rw [changeMode_htk, hm.htk]
  · rw [changeMode_cal]
    exact (hm.cal hcal).1
  · rw [changeMode_pins, hm.pins] at h
    exact absurd (hreset.symm.trans h) nofun

theorem abortCalibration_cal (s : State) : (abortCalibration s).cal = .none := by
  rw [abortCalibration_eq]

/-- The marks agree with the measuring state, but for the stall timer. -/
def State.marksAgreeButTimer (s : State) : Prop :=
  ∃ timer, ({ s with tcu := { s.tcu with stallTimer := timer } } : State).marksAgree

theorem marksAgree_butTimer {s : State} (hs : s.marksAgree) : s.marksAgreeButTimer := ⟨s.tcu.stallTimer, hs⟩

/-- PAUSE, STOP and a fault end measuring, whatever the stall timer (R12, R84, R171, R173, R176). -/
theorem marksAgree_endMeasuring {s : State} (hs : s.marksAgreeButTimer) (hwatch : s.mdc.mode.watched = true) (flags : FlagSet)
    {m : Mode} {f : FaultCause} (c : ModeCause) (n : Nat) (hcause : f = .none ↔ m ≠ .fault) (hmode : m.scans = false) :
    (changeMode m f c n (endMeasuring flags s)).marksAgree := by
  have hidle : s.mdc.mode ≠ .idle := fun h => by rw [h] at hwatch; exact absurd hwatch nofun
  obtain ⟨timer, hs⟩ := hs
  have hrel : s.pins.resetAsserted = false := (released_of_marksAgree hs hidle :)
  obtain ⟨-, hscanning, -, -, hquiet, hcalib, -, -⟩ := hs
  unfold endMeasuring
  generalize ha : (if s.mdc.mode = .calibrate then abortCalibration s else s) = a
  have haslr : a.slr = s.slr ∧ a.pins = s.pins ∧ a.cal = .none := by
    rw [← ha]
    split
    · rw [abortCalibration_eq]
      exact ⟨rfl, rfl, rfl⟩
    · rename_i hne
      exact ⟨rfl, rfl, hcalib.2 hne⟩
  obtain ⟨hslr, hpins, hcal⟩ := haslr
  simp only
  cases hscan : s.mdc.mode.scans with
  | true =>
    exact marksAgree_changeMode_closeAll flags c n hcause hmode rfl rfl hcal (hpins ▸ hrel)
  | false =>
    refine marksAgree_changeMode_closeAll flags c n hcause hmode ?_ ?_ hcal (hpins ▸ hrel)
    · exact hslr ▸ hscanning.trans hscan
    · exact hslr ▸ (hquiet hscan).1

/-- A fault request ends measuring in the states that are watched (R176). -/
theorem faultRequest_watched {s : State} (hwatch : s.mdc.mode.watched = true) (f : FaultCause) (c : ModeCause) :
    faultRequest f c s
      = changeMode .fault f c s.htk.table.length (endMeasuring (flagSet [.cut, .faulted]) s) := by
  revert hwatch
  unfold faultRequest
  cases s.mdc.mode <;> simp [Mode.watched]

/-- A fault request is dropped in IDLE and FAULT (R176). -/
theorem faultRequest_unwatched {s : State} (hwatch : s.mdc.mode.watched = false) (f : FaultCause) (c : ModeCause) :
    faultRequest f c s = s := by
  revert hwatch
  unfold faultRequest
  cases s.mdc.mode <;> simp [Mode.watched]

theorem marksAgree_fault {s : State} (hs : s.marksAgreeButTimer) (hwatch : s.mdc.mode.watched = true)
    {f : FaultCause} (c : ModeCause) (hf : f ≠ .none) : (faultRequest f c s).marksAgree := by
  rw [faultRequest_watched hwatch]
  exact marksAgree_endMeasuring hs hwatch _ c _ ⟨fun h => absurd h hf, fun h => absurd rfl h⟩ rfl

theorem faultRequest_marksAgree {f : FaultCause} (c : ModeCause) (hf : f ≠ .none) :
    KeptAlways State.marksAgree (faultRequest f c) := by
  intro s hs
  cases hwatch : s.mdc.mode.watched with
  | true => exact marksAgree_fault (marksAgree_butTimer hs) hwatch c hf
  | false =>
    rw [faultRequest_unwatched hwatch]
    exact hs

/-- The end of a calibration that is ENDING in CALIBRATE: the close-all hands the hides on while it is ENDING, and the
MODE record follows (R83, R175). -/
theorem calibrationEnds_ending {s : State} (hmode : s.mdc.mode = .calibrate) (hcal : s.cal = .ending) :
    calibrationEnds s = changeMode .idle .none .calEnd s.htk.table.length
      { closeAll Flag.cut.only (scanEnd s) with cal := .none } := if_pos ⟨hmode, hcal⟩

theorem calibrationEnds_marksAgree : KeptAlways State.marksAgree calibrationEnds := by
  intro s hs
  by_cases h : s.mdc.mode = .calibrate ∧ s.cal = .ending
  · rw [calibrationEnds_ending h.1 h.2]
    have hrel := released_of_marksAgree hs (by rw [h.1]; nofun)
    have hm := closeAll_measuring Flag.cut.only (scanEnd s)
    refine marksAgree_ended ⟨fun _ => nofun, fun _ => rfl⟩ rfl ?_ ?_ ?_ ?_ ?_ rfl rfl (fun _ => rfl)
    · rw [changeMode_slr, hm.slr]
      rfl
    · rw [changeMode_slr, hm.slr]
      rfl
    · rw [changeMode_htk, hm.htk]
    · rw [changeMode_htk, hm.htk]
    · rw [changeMode_htk, hm.htk]
  · rw [calibrationEnds, if_neg h]
    exact hs

/-! ### Strobes and advances (R8, R14, R15) -/

theorem requestLine_marksAgree (n : Count) {s : State} (hs : s.marksAgree) (hscan : s.mdc.mode.scans = true) :
    (requestLine n s).marksAgree :=
  marksAgree_scanning hs hscan rfl rfl rfl rfl rfl Iff.rfl

theorem settleBadLine_marksAgree (m : Count) {s : State} (hs : s.marksAgree) (hscan : s.mdc.mode.scans = true) :
    (settleBadLine m s).marksAgree ∧ (settleBadLine m s).mdc = s.mdc := by
  have htaken : ({ s with slr := { s.slr with outstanding := none } } : State).marksAgree :=
    marksAgree_scanning hs hscan rfl rfl rfl rfl rfl Iff.rfl
  have hheld := handOnLine_marksAgree m s.slr.lastGood .held _ htaken
  have hmdc : (handOnLine m s.slr.lastGood .held { s with slr := { s.slr with outstanding := none } }).mdc = s.mdc := by
    unfold handOnLine conditionLine
    simp only
    rw [trackLine_eq_lineTaken]
    obtain ⟨htk, hm⟩ := lineTaken_measuring m (gridLinePos m { s with slr := { s.slr with outstanding := none } })
      (runList s.settings s.lcn s.slr.lastGood) { s with slr := { s.slr with outstanding := none } }
    exact hm.mdc
  refine ⟨marksAgree_scanning hheld (by rw [hmdc]; exact hscan) rfl rfl rfl rfl rfl Iff.rfl, hmdc⟩

theorem scanLost_marksAgree (m : Count) : KeptAlways State.marksAgree (scanLost m) := by
  intro s hs
  unfold scanLost
  simp only
  split
  · refine faultRequest_marksAgree (f := .scanLost) _ nofun _ ?_
    split
    · exact calibrationEnds_marksAgree _ hs
    · exact hs
  · exact faultRequest_marksAgree (f := .scanLost) _ nofun _ hs

theorem strobeArrives_marksAgree (n : Count) : KeptAlways State.marksAgree (strobeArrives n) := by
  intro s hs
  unfold strobeArrives
  split
  · rename_i hscanning
    have hscan : s.mdc.mode.scans = true := hs.2.1.symm.trans hscanning
    split
    · exact requestLine_marksAgree n hs hscan
    · rename_i m _
      obtain ⟨hsettled, hmdc⟩ := settleBadLine_marksAgree m hs hscan
      simp only
      split
      · exact scanLost_marksAgree m _ hsettled
      · exact requestLine_marksAgree n hsettled (by rw [hmdc]; exact hscan)
  · exact hs

theorem lineAdvance_marksAgree : KeptAlways State.marksAgree lineAdvance := by
  intro s hs
  unfold lineAdvance
  split
  · exact hs
  · obtain ⟨hcause, hscanning, htracking, -, hrest⟩ := hs
    exact strobeArrives_marksAgree _ _ ⟨hcause, hscanning, htracking, fun _ => rfl, hrest⟩

theorem takeItem_marksAgree (i : DueItem) : KeptAlways State.marksAgree (fun s => takeItem s i) := by
  cases i with
  | line => exact lineAdvance_marksAgree
  | stamp h => exact fun s hs => (stampAdvance_upstream h s).marksAgree hs
  | drops => exact fun s hs => (dropReached_upstream _ s).marksAgree hs

theorem takeDue_marksAgree : KeptAlways State.marksAgree takeDue := by
  intro s hs
  unfold takeDue
  split
  · exact hs
  · exact takeItem_marksAgree _ s hs
  · exact KeptAlways.foldl takeItem_marksAgree _ _ hs

theorem restartStallTimer_marksAgree : KeptAlways State.marksAgree restartStallTimer := by
  intro s hs
  obtain ⟨hcause, hscanning, htracking, hgrid, hquiet, hcalib, htimer, hreset⟩ := hs
  exact ⟨hcause, hscanning, htracking, hgrid, hquiet, hcalib, (Option.isSome_map ..).trans htimer, hreset⟩

theorem encoderChanges_marksAgree (a b : Bool) : KeptAlways State.marksAgree (encoderChanges a b) := by
  intro s hs
  have hrestarted := restartStallTimer_marksAgree { s with pins := { s.pins with encoderA := a, encoderB := b } } hs
  unfold encoderChanges
  simp only
  split
  · exact hs
  · unfold stepForward
    simp only
    split
    · exact takeDue_marksAgree _ hrestarted
    · exact hrestarted
  · unfold stepBack
    split
    · exact hrestarted
    · exact hrestarted

/-! ### Events -/

theorem lineFrameArrives_marksAgree (frame : List Byte) : KeptAlways State.marksAgree (lineFrameArrives frame) := by
  intro s hs
  unfold lineFrameArrives
  split
  · exact hs
  · rename_i n hout
    have hscan : s.mdc.mode.scans = true := by
      by_contra hno
      have hquiet := (hs.2.2.2.2.1 (Bool.eq_false_iff.2 hno)).1
      rw [hout] at hquiet
      exact absurd hquiet nofun
    split
    · exact handOnLine_marksAgree _ _ _ _ (marksAgree_scanning hs hscan rfl rfl rfl rfl rfl Iff.rfl)
    · exact hs

theorem stallExpires_marksAgree : KeptAlways State.marksAgree stallExpires := by
  intro s hs
  unfold stallExpires
  split
  · exact hs
  · rename_i time htime
    have htimer := hs.2.2.2.2.2.2.1
    rw [htime, Option.isSome_some, eq_comm, Bool.and_eq_true] at htimer
    exact marksAgree_fault (f := .stall)
      (s := submit (.stall s.mdc.mode s.tcu.position s.tcu.hwm time) { s with tcu := { s.tcu with stallTimer := none } })
      ⟨s.tcu.stallTimer, hs⟩ htimer.1 _ nofun

theorem beltRunAsserts_marksAgree : KeptAlways State.marksAgree beltRunAsserts := by
  intro s hs
  unfold beltRunAsserts
  split
  · exact hs
  · obtain ⟨hcause, hscanning, htracking, hgrid, hquiet, hcalib, -, hreset⟩ := hs
    exact ⟨hcause, hscanning, htracking, hgrid, hquiet, hcalib, freshStallTimer_isSome _ _ _, hreset⟩

theorem beltRunDeasserts_marksAgree : KeptAlways State.marksAgree beltRunDeasserts := by
  intro s hs
  obtain ⟨hcause, hscanning, htracking, hgrid, hquiet, hcalib, -, hreset⟩ := hs
  exact ⟨hcause, hscanning, htracking, hgrid, hquiet, hcalib, (Bool.and_false _).symm, hreset⟩

theorem marksAgree_events : KeptByEvents State.marksAgree where
  beltLevel b s hasserted hs := by
    obtain ⟨hcause, hscanning, htracking, hgrid, hquiet, hcalib, htimer, hreset⟩ := hs
    have hidle := hreset hasserted
    refine ⟨hcause, hscanning, htracking, hgrid, hquiet, hcalib, ?_, hreset⟩
    rw [hidle] at htimer
    simp only [hidle]
    exact htimer
  release s hs := by
    obtain ⟨hcause, hscanning, htracking, hgrid, hquiet, hcalib, htimer, -⟩ := hs
    exact ⟨hcause, hscanning, htracking, hgrid, hquiet, hcalib, htimer, nofun⟩
  beltAssert := beltRunAsserts_marksAgree.keptBy
  beltDeassert := beltRunDeasserts_marksAgree.keptBy
  stall := stallExpires_marksAgree.keptBy
  lineFrame frame := (lineFrameArrives_marksAgree frame).keptBy
  scanBytes _ _ hs := hs
  calEnd := calibrationEnds_marksAgree.keptBy
  ready h tag s hs := (acceptReady_upstream h tag s).marksAgree hs
  done h tag s hs := (acceptDone_upstream h tag s).marksAgree hs
  headFault h cause s hs := (headFault_upstream h cause s).marksAgree hs
  headBytes _ _ _ hs := hs
  gatePulse _ _ hs := hs
  packChange lane s hs := (packChangeExpires_upstream lane s).marksAgree hs

/-! ### Requests (R170 to R175) -/

/-- A start of measuring sets every mark (R57, R170, R172, R175). -/
theorem marksAgree_started {t : State} (hcause : t.mdc.cause = .none) (hmode : t.mdc.mode.scans = true)
    (hscanning : t.slr.scanning = true) (htrack : t.htk.tracking = true) (hgrid : t.tcu.grid.isSome = true)
    (hcal : t.cal = .none ↔ t.mdc.mode ≠ .calibrate)
    (htimer : t.tcu.stallTimer.isSome = (t.mdc.mode.watched && t.pins.beltRun)) (hrel : t.pins.resetAsserted = false) :
    t.marksAgree :=
  ⟨⟨fun _ h => (by rw [h] at hmode; exact absurd hmode nofun), fun _ => hcause⟩, hscanning.trans hmode.symm,
    htrack.trans hmode.symm, fun _ => hgrid, fun h => absurd (hmode.symm.trans h) nofun, hcal, htimer,
    fun h => absurd (hrel.symm.trans h) nofun⟩

theorem serveStart_marksAgree : KeptBy State.marksAgree (fun s => (serveStart s).1) := by
  intro s hrel hs
  simp only [serveStart]
  split
  · rename_i hidle
    have hcal : s.cal = .none := hs.2.2.2.2.2.1.2 (by rw [hidle]; nofun)
    exact marksAgree_started rfl rfl rfl rfl rfl ⟨fun _ => nofun, fun _ => hcal⟩ (freshStallTimer_isSome _ _ _) hrel
  · exact hs

theorem serveResume_marksAgree : KeptBy State.marksAgree (fun s => (serveResume s).1) := by
  intro s hrel hs
  simp only [serveResume]
  split
  · rename_i hpause
    have hcal : s.cal = .none := hs.2.2.2.2.2.1.2 (by rw [hpause]; nofun)
    exact marksAgree_started rfl rfl rfl rfl rfl ⟨fun _ => nofun, fun _ => hcal⟩ (freshStallTimer_isSome _ _ _) hrel
  · exact hs

theorem serveCalib_marksAgree (aRef : BitVec 32) : KeptBy State.marksAgree (fun s => (serveCalib aRef s).1) := by
  intro s hrel hs
  simp only [serveCalib]
  split
  · exact hs
  · split
    · exact marksAgree_started rfl rfl rfl rfl rfl ⟨nofun, fun h => absurd rfl h⟩ (freshStallTimer_isSome _ _ _) hrel
    · exact hs

theorem servePause_marksAgree : KeptBy State.marksAgree (fun s => (servePause s).1) := by
  intro s _ hs
  simp only [servePause]
  split
  · rename_i hrun
    exact marksAgree_endMeasuring (marksAgree_butTimer hs) (by rw [hrun]; rfl) _ _ _ ⟨fun _ => nofun, fun _ => rfl⟩ rfl
  · exact hs

theorem serveStop_marksAgree : KeptBy State.marksAgree (fun s => (serveStop s).1) := by
  intro s _ hs
  simp only [serveStop]
  split
  · rename_i hwatch
    exact marksAgree_endMeasuring (marksAgree_butTimer hs) hwatch _ _ _ ⟨fun _ => nofun, fun _ => rfl⟩ rfl
  · exact hs

theorem serveClear_marksAgree : KeptBy State.marksAgree (fun s => (serveClear s).1) := by
  intro s _ hs
  simp only [serveClear]
  split
  · rename_i hfault
    obtain ⟨-, hscanning, htracking, -, hquiet, hcalib, -, -⟩ := hs
    rw [hfault] at hscanning htracking
    obtain ⟨hout, htable, hshadow⟩ := hquiet (by rw [hfault]; rfl)
    exact marksAgree_ended ⟨fun _ => nofun, fun _ => rfl⟩ rfl hscanning hout htracking htable hshadow
      (hcalib.2 (by rw [hfault]; nofun)) rfl (fun _ => rfl)
  · exact hs

theorem marksAgree_requests : KeptByRequests State.marksAgree where
  set x _ _ _ _ hs _ _ := (afterWrite_upstream x _).marksAgree hs
  widths _ _ _ hs _ _ _ := hs
  maskAdd _ _ hs _ _ _ := hs
  maskDrop _ _ hs := hs
  start := serveStart_marksAgree
  pause := servePause_marksAgree
  resume := serveResume_marksAgree
  stop := serveStop_marksAgree
  clear := serveClear_marksAgree
  calib := serveCalib_marksAgree
  fetch _ _ hs := hs
  rearm _ _ hs := hs
  ticket _ _ _ hs _ := (waiterService_upstream _).marksAgree hs
  packClose _ _ hs _ := (closePack_upstream _ _ _).marksAgree hs
  target _ _ _ hs _ := (targetCheck_upstream _ _).marksAgree hs
  lotOpen _ _ _ _ hs _ := hs
  lotClose _ _ hs _ := ⟨hs, fun _ => (closeLot_upstream _ _).marksAgree hs⟩
  headClear _ _ hs _ := (armingCheck_upstream _ _).marksAgree hs
  reset _ _ := marksAgree_ended ⟨fun _ => nofun, fun _ => rfl⟩ rfl rfl rfl rfl rfl rfl rfl rfl (fun _ => rfl)

theorem marksAgree_encoder : KeptByEncoder State.marksAgree :=
  ⟨fun _ _ _ _ hs => hs, fun a b => (encoderChanges_marksAgree a b).keptBy⟩

theorem fullReset_marksAgree (cause : ResetCause) (strap : Bool) (s : State) : (fullReset cause strap s).marksAgree :=
  marksAgree_ended ⟨fun _ => nofun, fun _ => rfl⟩ rfl rfl rfl rfl rfl rfl rfl rfl (fun _ => rfl)

/-- Settles O55: starts set the marks, ends clear them, lines and the output chain leave them alone. -/
theorem stepKeepsMarksInAgreement : Obligations.StepKeepsMarksInAgreement := fun _ _ hs ht =>
  step_kept (P := State.marksAgree) ⟨fun _ _ hs => hs, fun _ _ hs => hs⟩ marksAgree_requests marksAgree_events
    marksAgree_encoder (fun cause strap s _ => fullReset_marksAgree cause strap s) hs ht

end Sys2Proof.Machine

/-! What the stamp controller leaves alone downstream: the tally, the lane outputs, and of every transit entry all but
its stamp part and its flags. -/

namespace Sys2Proof.Machine

/-- An entry without its stamp part and flags. -/
def Entry.bare (e : Entry) : Entry := { e with flags := 0, stamp := none }

/-- t is s but for the stamp channels, the report queue, and the stamp parts and flags of the transit entries. -/
structure SameStock (s t : State) : Prop where
  upstream : SameUpstream s t
  tlu : t.tlu = s.tlu
  entries : t.tru.transit.map Entry.bare = s.tru.transit.map Entry.bare
  outputs : t.tru = { s.tru with transit := t.tru.transit }

theorem SameStock.refl (s : State) : SameStock s s := ⟨.refl s, rfl, rfl, rfl⟩

theorem SameStock.trans {s t u : State} (a : SameStock s t) (b : SameStock t u) : SameStock s u :=
  ⟨a.upstream.trans b.upstream, b.tlu.trans a.tlu, b.entries.trans a.entries, by rw [b.outputs, a.outputs]⟩

theorem SameStock.foldl {α : Type} (f : State → α → State) (hf : ∀ s a, SameStock s (f s a)) (l : List α)
    (s : State) : SameStock s (l.foldl f s) := by
  induction l generalizing s with
  | nil => exact .refl s
  | cons a l ih => exact (hf s a).trans (ih _)

/-- What a function of bare entries gives along the list is the same. -/
theorem SameStock.map {s t : State} (h : SameStock s t) {β : Type} (f : Entry → β) (hf : ∀ e, f e = f e.bare) :
    t.tru.transit.map f = s.tru.transit.map f := by
  have hmap (l : List Entry) : l.map f = (l.map Entry.bare).map f := by
    rw [List.map_map]
    exact List.map_congr_left fun e _ => hf e
  rw [hmap, h.entries, ← hmap]

theorem SameStock.tags {s t : State} (h : SameStock s t) :
    t.tru.transit.map (fun e => e.tag) = s.tru.transit.map (fun e => e.tag) := h.map _ fun _ => rfl

theorem SameStock.transit_length {s t : State} (h : SameStock s t) : t.tru.transit.length = s.tru.transit.length := by
  simpa using congrArg List.length h.entries

theorem putOrder_stock (tag : Tag) (st : OrderState) (flags : FlagSet) (s : State) :
    SameStock s (putOrder tag st flags s) := by
  refine ⟨⟨rfl, rfl, rfl, rfl, rfl, rfl, rfl, rfl, rfl, rfl, rfl⟩, rfl, ?_, rfl⟩
  simp only [putOrder_tru, Tru.changeOrder, List.map_map]
  refine List.map_congr_left fun e _ => ?_
  simp only [Function.comp_apply]
  split <;> rfl

theorem setChannel_stock (h : Fin 4) (c : Channel) (s : State) : SameStock s (setChannel h c s) :=
  ⟨⟨rfl, rfl, rfl, rfl, rfl, rfl, rfl, rfl, rfl, rfl, rfl⟩, rfl, rfl, rfl⟩

theorem submit_stock (r : Record) (s : State) : SameStock s (submit r s) := ⟨submit_upstream r s, rfl, rfl, rfl⟩

theorem armOrder_stock (h : Fin 4) (tag : Tag) (o : Order) (s : State) : SameStock s (armOrder h tag o s) :=
  (putOrder_stock tag .arming 0#16 s).trans (setChannel_stock h _ _)

theorem fireOrder_stock (h : Fin 4) (tag : Tag) (s : State) : SameStock s (fireOrder h tag s) :=
  (putOrder_stock tag .firing 0#16 s).trans (setChannel_stock h _ _)

theorem armingCheck_stock (h : Fin 4) (s : State) : SameStock s (armingCheck h s) := by
  unfold armingCheck
  split
  · split
    · exact .refl s
    · exact armOrder_stock _ _ _ _
  · split
    · split
      · exact (putOrder_stock _ _ _ _).trans (armOrder_stock _ _ _ _)
      · exact .refl s
    · exact .refl s
  all_goals exact .refl s

theorem takeFromHand_stock (tag : Tag) (o : Order) (s : State) : SameStock s (takeFromHand tag o s) := by
  unfold takeFromHand
  simp only
  split
  · exact setChannel_stock _ _ _
  · exact .refl s

theorem missOrder_stock (tag : Tag) (lane : Fin 4) (o : Order) (s : State) :
    SameStock s (missOrder tag lane o s) :=
  ((putOrder_stock tag _ _ s).trans (submit_stock _ _)).trans (takeFromHand_stock _ _ _)

theorem fireIfDue_stock (h : Fin 4) (s : State) : SameStock s (fireIfDue h s) := by
  unfold fireIfDue
  split
  · exact .refl s
  · exact fireOrder_stock _ _ _

theorem stampAdvance_stock (h : Fin 4) (s : State) : SameStock s (stampAdvance h s) := by
  unfold stampAdvance
  simp only
  split
  · exact fireIfDue_stock h s
  · refine (fireIfDue_stock h s).trans (.trans ?_ (armingCheck_stock _ _))
    exact .foldl _ (fun s x => missOrder_stock _ _ _ s) _ _

theorem settle_stock (e : Entry) (s : State) : SameStock s (settle e s).2.2 := by
  unfold settle
  split
  · exact .refl s
  · split
    · exact .refl s
    · exact .refl s
    · exact .refl s
    · exact setChannel_stock _ _ _
    all_goals
      exact ((submit_stock _ s).trans (takeFromHand_stock _ _ _)).trans (armingCheck_stock _ _)

theorem acceptReady_stock (h : Fin 4) (tag : Tag) (s : State) : SameStock s (acceptReady h tag s) := by
  unfold acceptReady
  simp only
  split
  · have harmed := (putOrder_stock tag .armed 0#16 s).trans
      (setChannel_stock h { s.stc.get h with state := .armed, armTimer := false } _)
    split
    · exact harmed
    · split
      · exact harmed.trans (fireOrder_stock _ _ _)
      · exact harmed.trans (armingCheck_stock _ _)
  · exact .refl s

theorem acceptDone_stock (h : Fin 4) (tag : Tag) (s : State) : SameStock s (acceptDone h tag s) := by
  unfold acceptDone
  simp only
  split
  · refine SameStock.trans ?_ (armingCheck_stock _ _)
    split
    · exact setChannel_stock _ _ _
    · exact (setChannel_stock _ _ _).trans (putOrder_stock _ _ _ _)
  · exact .refl s

theorem headFault_stock (h : Fin 4) (cause : HeadCause) (s : State) : SameStock s (headFault h cause s) := by
  unfold headFault
  simp only
  refine SameStock.trans (SameStock.trans ?_ (setChannel_stock _ _ _)) (submit_stock _ _)
  split
  · exact putOrder_stock _ _ _ _
  · exact putOrder_stock _ _ _ _
  all_goals exact .refl s

theorem reportLateClose_stock (e : Entry) (s : State) : SameStock s (reportLateClose e s) := by
  unfold reportLateClose
  split
  · exact .refl s
  · split
    · exact submit_stock _ _
    · exact .refl s

theorem checkNewOrder_stock (e : Entry) (s : State) : SameStock s (checkNewOrder e s) := by
  unfold checkNewOrder
  split
  · exact .refl s
  · split
    · exact armingCheck_stock _ _
    · exact .refl s

/-! ### What the tally leaves alone -/

@[simp] theorem storePackTicket_transit (lane : Fin 4) (cause : CloseCause) (overrun : Bool) (s : State) :
    (storePackTicket lane cause overrun s).tru.transit = s.tru.transit := rfl

@[simp] theorem closePack_transit (lane : Fin 4) (cause : CloseCause) (s : State) :
    (closePack lane cause s).tru.transit = s.tru.transit := by
  obtain ⟨-, h⟩ | ⟨-, h⟩ := closePack_cases lane cause s <;> rw [h] <;> rfl

@[simp] theorem targetCheck_transit (lane : Fin 4) (s : State) :
    (targetCheck lane s).tru.transit = s.tru.transit := by
  obtain ⟨-, -, h⟩ | h := targetCheck_cases lane s
  · rw [h, closePack_transit]
  · rw [h]

@[simp] theorem tallyPack_transit (lane : Fin 4) (figure area : Nat) (s : State) :
    (tallyPack lane figure area s).tru.transit = s.tru.transit := targetCheck_transit _ _

@[simp] theorem closeLot_tru (slot : Fin 4) (s : State) : (closeLot slot s).tru = s.tru := by
  obtain ⟨-, h⟩ | ⟨-, h⟩ := closeLot_cases slot s
  · rw [h]
    rfl
  · rw [h]

@[simp] theorem lowerInFlight_tru (slot : Fin 4) (s : State) : (lowerInFlight slot s).tru = s.tru := by
  simp only [lowerInFlight]
  split
  · rw [closeLot_tru, setLot_tru]
  · rfl

@[simp] theorem releaseLots_tru (lots : Quad Bool) (s : State) : (releaseLots lots s).tru = s.tru := by
  unfold releaseLots
  generalize fours.filter (fun i => lots.get i) = l
  induction l generalizing s with
  | nil => rfl
  | cons i l ih => exact (ih _).trans (lowerInFlight_tru i s)

@[simp] theorem tallyFate_transit (fate : Fate) (e : Entry) (flags : FlagSet) (s : State) :
    (tallyFate fate e flags s).tru.transit = s.tru.transit := by
  cases fate with
  | pack => exact tallyPack_transit _ _ _ _
  | scrap =>
    simp only [tallyFate]
    split <;> rfl
  | divert | none => rfl

/-- A drop with its pair of pairs taken apart (R132). -/
theorem dropEntry_eq (e : Entry) (s : State) :
    dropEntry e s =
      (let settled := settle e s
       let decided := decideFate e.lane settled.2.1 settled.2.2
       let number := (settled.2.2.tlu.packs.get e.lane).number
       let tallied := releaseLots e.lots (tallyFate decided.1 e decided.2 settled.2.2)
       let gated := if decided.1 = .divert then pulseGate e.lane tallied else tallied
       submit (.hide (dropReport e decided.2 decided.1 number settled.1)) gated) := rfl

/-- A drop leaves the entries of the list, which the entry dropped has left, but for their stamp parts and flags. -/
theorem dropEntry_entries (e : Entry) (s : State) :
    (dropEntry e s).tru.transit.map Entry.bare = s.tru.transit.map Entry.bare := by
  rw [dropEntry_eq]
  simp only [submit_tru]
  rw [← (settle_stock e s).entries]
  split <;> simp [pulseGate]

theorem placeEntry_perm (e : Entry) (l : List Entry) : (placeEntry e l).Perm (e :: l) := by
  induction l with
  | nil => exact .refl _
  | cons x rest ih =>
    unfold placeEntry
    split
    · exact .refl _
    · exact (ih.cons x).trans (.swap e x rest)

end Sys2Proof.Machine

/-! The accounts of the tally (R151, R154, R159, R163). They are kept against the number of entries in flight for each
slot. While an entry that has left the list is being dropped, its lots still count it: the accounts then agree with
one more in flight for each lot of its set, and each in-flight decrement settles one of them. -/

namespace Sys2Proof.Machine

/-! ### The accounts against a number in flight -/

/-- The entries of a list that name a slot. -/
def inFlightOf (l : List Entry) (i : Fin 4) : Nat := (l.filter (fun e => e.lots.get i)).length

/-- The accounts of the tally agree, each slot's in-flight count with the number given. -/
structure Tlu.Agrees (u : Tlu) (flight : Fin 4 → Nat) : Prop where
  inFlight : ∀ i, (u.lots.get i).inFlight = flight i
  free : ∀ i, (u.lots.get i).state = .free → u.lots.get i = Lot.freeSlot
  lotWaits : ∀ i, Waiter.lot i ∈ u.waiters ↔ (u.lots.get i).mark = true
  marked : ∀ i, (u.lots.get i).mark = true → (u.lots.get i).state = .closing ∧ (u.lots.get i).inFlight = 0
  packWaits : ∀ i, Waiter.pack i ∈ u.waiters ↔ (u.packs.get i).state = .wait
  hold : ∀ i, u.holdLine.get i = decide ((u.packs.get i).state = .wait)
  cause : ∀ i, (u.packs.get i).cause = .none ↔ (u.packs.get i).state = .opened
  nodup : u.waiters.Nodup
  stored : u.tickets.length ≤ 8
  full : u.waiters ≠ [] → u.tickets.length = 8

/-- The accounts agree with the transit list. -/
def State.tallied (s : State) : Prop := s.tlu.Agrees (inFlightOf s.tru.transit)

theorem tallyAgrees_iff {s : State} : s.tallyAgrees ↔ s.tallied := by
  constructor
  · rintro ⟨hlots, hpacks, hnodup, hstored, hfull⟩
    exact ⟨fun i => (hlots i).1, fun i => (hlots i).2.1, fun i => (hlots i).2.2.1, fun i => (hlots i).2.2.2,
      fun i => (hpacks i).1, fun i => (hpacks i).2.1, fun i => (hpacks i).2.2, hnodup, hstored, hfull⟩
  · intro h
    exact ⟨fun i => ⟨h.inFlight i, h.free i, h.lotWaits i, h.marked i⟩,
      fun i => ⟨h.packWaits i, h.hold i, h.cause i⟩, h.nodup, h.stored, h.full⟩

theorem inFlightOf_bare {l l' : List Entry} (h : l.map Entry.bare = l'.map Entry.bare) :
    inFlightOf l = inFlightOf l' := by
  have hcount (l : List Entry) (i : Fin 4) : inFlightOf l i = (l.map Entry.bare).countP (fun e => e.lots.get i) := by
    rw [inFlightOf, ← List.countP_eq_length_filter, List.countP_map]
    rfl
  funext i
  rw [hcount, hcount, h]

theorem inFlightOf_cons (e : Entry) (l : List Entry) (i : Fin 4) :
    inFlightOf (e :: l) i = inFlightOf l i + (e.lots.get i).toNat := by
  unfold inFlightOf
  rw [List.filter_cons]
  cases e.lots.get i <;> simp

theorem inFlightOf_perm {l l' : List Entry} (h : l.Perm l') : inFlightOf l = inFlightOf l' :=
  funext fun _ => (h.filter _).length_eq

theorem SameStock.tallied {s t : State} (h : SameStock s t) (hs : s.tallied) : t.tallied := by
  unfold State.tallied
  rw [h.tlu, inFlightOf_bare h.entries]
  exact hs

namespace Tlu.Agrees
variable {u : Tlu} {f g : Fin 4 → Nat}

/-! ### Packs (R142 to R151) -/

theorem waiters_nil_of_room (h : u.Agrees f) (hroom : u.tickets.length < 8) : u.waiters = [] := by
  by_contra hne
  have := h.full hne
  omega

/-- A pack that stays in its state with its cause leaves the accounts as they are. -/
theorem withPack (h : u.Agrees f) {lane : Fin 4} {p : Pack} (hstate : p.state = (u.packs.get lane).state)
    (hcause : p.cause = (u.packs.get lane).cause) : { u with packs := u.packs.set lane p }.Agrees f := by
  have hget (i : Fin 4) : ((u.packs.set lane p).get i).state = (u.packs.get i).state
      ∧ ((u.packs.set lane p).get i).cause = (u.packs.get i).cause := by
    by_cases hi : i = lane
    · subst hi
      rw [Quad.get_set_same]
      exact ⟨hstate, hcause⟩
    · rw [Quad.get_set_other _ _ hi]
      exact ⟨rfl, rfl⟩
  refine ⟨h.inFlight, h.free, h.lotWaits, h.marked, fun i => ?_, fun i => ?_, fun i => ?_, h.nodup, h.stored, h.full⟩
  · rw [(hget i).1]
    exact h.packWaits i
  · rw [(hget i).1]
    exact h.hold i
  · rw [(hget i).1, (hget i).2]
    exact h.cause i

/-- A ticket stored while there is room leaves the accounts as they are. -/
theorem withTicket (h : u.Agrees f) (t : Ticket) (hroom : u.tickets.length < 8) :
    { u with tickets := u.tickets ++ [t] }.Agrees f :=
  ⟨h.inFlight, h.free, h.lotWaits, h.marked, h.packWaits, h.hold, h.cause, h.nodup,
    (by simp; omega), fun hne => absurd (h.waiters_nil_of_room hroom) hne⟩

/-- The pulse of a pack-change line leaves the accounts as they are. -/
theorem withChange (h : u.Agrees f) (line timer : Quad Bool) :
    { u with changeLine := line, changeTimer := timer }.Agrees f :=
  ⟨h.inFlight, h.free, h.lotWaits, h.marked, h.packWaits, h.hold, h.cause, h.nodup, h.stored, h.full⟩

/-- An OPEN pack that enters WAIT with the store full waits last, its hold line asserted and its cause set (R148). -/
theorem packWaiting (h : u.Agrees f) {lane : Fin 4} (cause : CloseCause) (hopen : (u.packs.get lane).state = .opened)
    (hfull : 8 ≤ u.tickets.length) :
    { u with
      packs := u.packs.set lane { u.packs.get lane with state := .wait, cause := some cause }
      waiters := u.waiters ++ [Waiter.pack lane]
      holdLine := u.holdLine.set lane true }.Agrees f := by
  have hnew : Waiter.pack lane ∉ u.waiters := fun hmem => by
    have := (h.packWaits lane).1 hmem
    rw [hopen] at this
    exact absurd this nofun
  refine ⟨h.inFlight, h.free, fun i => ?_, h.marked, fun i => ?_, fun i => ?_, fun i => ?_,
    (List.perm_append_singleton _ _).nodup_iff.2 (List.nodup_cons.2 ⟨hnew, h.nodup⟩), h.stored,
    fun _ => Nat.le_antisymm h.stored hfull⟩
  · simp only [List.mem_append, List.mem_singleton, reduceCtorEq, or_false]
    exact h.lotWaits i
  all_goals
    by_cases hi : i = lane
    · subst hi
      simp
    · simp [Quad.get_set_other _ _ hi, hi, h.packWaits i, h.hold i, h.cause i]

/-- The first waiter, a pack: it leaves the list, its hold line is deasserted and the pack renewed (R143, R164). -/
theorem packServed (h : u.Agrees f) {lane : Fin 4} {rest : List Waiter} (hw : u.waiters = .pack lane :: rest) (n : Nat) :
    { u with
      waiters := rest
      holdLine := u.holdLine.set lane false
      packs := u.packs.set lane (Pack.fresh n) }.Agrees f := by
  have hnodup := hw ▸ h.nodup
  have hmem (w : Waiter) (hne : w ≠ .pack lane) : w ∈ rest ↔ w ∈ u.waiters := by simp [hw, hne]
  refine ⟨h.inFlight, h.free, fun i => ?_, h.marked, fun i => ?_, fun i => ?_, fun i => ?_,
    (List.nodup_cons.1 hnodup).2, h.stored, fun _ => h.full (by rw [hw]; nofun)⟩
  · exact (hmem (.lot i) (by simp)).trans (h.lotWaits i)
  · by_cases hi : i = lane
    · subst hi
      simp [Pack.fresh, (List.nodup_cons.1 hnodup).1]
    · rw [Quad.get_set_other _ _ hi]
      exact (hmem (.pack i) (by simp [hi])).trans (h.packWaits i)
  all_goals
    by_cases hi : i = lane
    · subst hi
      simp [Pack.fresh]
    · simp [Quad.get_set_other _ _ hi, h.hold i, h.cause i]

/-! ### Lots (R154 to R160) -/

/-- Lots replaced with their marks standing: the accounts agree with the new counts when a FREE slot still holds nothing
and a marked lot is still CLOSING with nothing in flight. -/
theorem withLots (h : u.Agrees f) {lots : Quad Lot} (hflight : ∀ i, (lots.get i).inFlight = g i)
    (hfree : ∀ i, (lots.get i).state = .free → lots.get i = Lot.freeSlot)
    (hmark : ∀ i, (lots.get i).mark = (u.lots.get i).mark)
    (hmarked : ∀ i, (lots.get i).mark = true → (lots.get i).state = .closing ∧ (lots.get i).inFlight = 0) :
    { u with lots := lots }.Agrees g :=
  ⟨hflight, hfree, fun i => (h.lotWaits i).trans (by rw [← hmark i]), hmarked, h.packWaits, h.hold, h.cause, h.nodup,
    h.stored, h.full⟩

/-- One lot replaced, with its mark standing. -/
theorem withLot (h : u.Agrees f) {slot : Fin 4} {l : Lot} (hflight : l.inFlight = g slot)
    (hother : ∀ i, i ≠ slot → g i = f i) (hfree : l.state = .free → l = Lot.freeSlot)
    (hmark : l.mark = (u.lots.get slot).mark) (hmarked : l.mark = true → l.state = .closing ∧ l.inFlight = 0) :
    { u with lots := u.lots.set slot l }.Agrees g := by
  refine h.withLots (fun i => ?_) (fun i => ?_) (fun i => ?_) (fun i => ?_) <;>
    by_cases hi : i = slot
  · rwa [hi, Quad.get_set_same]
  · rw [Quad.get_set_other _ _ hi, hother i hi]
    exact h.inFlight i
  · rwa [hi, Quad.get_set_same]
  · rw [Quad.get_set_other _ _ hi]
    exact h.free i
  · rwa [hi, Quad.get_set_same]
  · rw [Quad.get_set_other _ _ hi]
  · rwa [hi, Quad.get_set_same]
  · rw [Quad.get_set_other _ _ hi]
    exact h.marked i

theorem not_marked_of_inFlight (h : u.Agrees f) {i : Fin 4} (hne : (u.lots.get i).inFlight ≠ 0) :
    (u.lots.get i).mark = false :=
  Bool.eq_false_iff.2 fun hm => hne (h.marked i hm).2

theorem not_marked_of_opened (h : u.Agrees f) {i : Fin 4} (hopen : (u.lots.get i).state = .opened) :
    (u.lots.get i).mark = false := by
  refine Bool.eq_false_iff.2 fun hm => ?_
  have := (h.marked i hm).1
  rw [hopen] at this
  exact absurd this nofun

/-- A slot that some entry in flight names is not FREE. -/
theorem not_free_of_inFlight (h : u.Agrees f) {i : Fin 4} (hne : f i ≠ 0) : (u.lots.get i).state ≠ .free := by
  intro hfree
  have := h.inFlight i
  rw [h.free i hfree] at this
  exact hne this.symm

/-- A slot freed while nothing is in flight for it (R159). -/
theorem lotFreed (h : u.Agrees f) {slot : Fin 4} (hflight : f slot = 0) (hmark : (u.lots.get slot).mark = false) :
    { u with lots := u.lots.set slot Lot.freeSlot }.Agrees f :=
  h.withLot hflight.symm (fun _ _ => rfl) (fun _ => rfl) hmark.symm nofun

/-- A CLOSING lot with nothing in flight that is marked with the store full waits last (R159). -/
theorem lotWaiting (h : u.Agrees f) {slot : Fin 4} (hclosing : (u.lots.get slot).state = .closing)
    (hflight : f slot = 0) (hmark : (u.lots.get slot).mark = false) (hfull : 8 ≤ u.tickets.length) :
    { u with
      lots := u.lots.set slot { u.lots.get slot with mark := true }
      waiters := u.waiters ++ [Waiter.lot slot] }.Agrees f := by
  have hnew : Waiter.lot slot ∉ u.waiters := fun hmem => by
    have := (h.lotWaits slot).1 hmem
    rw [hmark] at this
    exact absurd this nofun
  have hzero := (h.inFlight slot).trans hflight
  refine ⟨fun i => ?_, fun i => ?_, fun i => ?_, fun i => ?_, fun i => ?_, h.hold, h.cause,
    (List.perm_append_singleton _ _).nodup_iff.2 (List.nodup_cons.2 ⟨hnew, h.nodup⟩), h.stored,
    fun _ => Nat.le_antisymm h.stored hfull⟩
  · by_cases hi : i = slot
    · subst hi
      rw [Quad.get_set_same]
      exact h.inFlight i
    · rw [Quad.get_set_other _ _ hi]
      exact h.inFlight i
  · by_cases hi : i = slot
    · subst hi
      simp [hclosing]
    · rw [Quad.get_set_other _ _ hi]
      exact h.free i
  · by_cases hi : i = slot
    · subst hi
      simp
    · simp [Quad.get_set_other _ _ hi, hi, h.lotWaits i]
  · by_cases hi : i = slot
    · subst hi
      simp [hclosing, hzero]
    · rw [Quad.get_set_other _ _ hi]
      exact h.marked i
  · simp only [List.mem_append, List.mem_singleton, reduceCtorEq, or_false]
    exact h.packWaits i

/-- The first waiter, a lot: it leaves the list and its slot is freed (R164). -/
theorem lotServed (h : u.Agrees f) {slot : Fin 4} {rest : List Waiter} (hw : u.waiters = .lot slot :: rest) :
    { u with waiters := rest, lots := u.lots.set slot Lot.freeSlot }.Agrees f := by
  have hnodup := hw ▸ h.nodup
  have hmem (w : Waiter) (hne : w ≠ .lot slot) : w ∈ rest ↔ w ∈ u.waiters := by simp [hw, hne]
  have hzero : f slot = 0 := by
    rw [← h.inFlight]
    exact (h.marked slot ((h.lotWaits slot).1 (by simp [hw]))).2
  refine ⟨fun i => ?_, fun i => ?_, fun i => ?_, fun i => ?_, fun i => ?_, h.hold, h.cause,
    (List.nodup_cons.1 hnodup).2, h.stored, fun _ => h.full (by rw [hw]; nofun)⟩
  · by_cases hi : i = slot
    · subst hi
      rw [Quad.get_set_same]
      exact hzero.symm
    · rw [Quad.get_set_other _ _ hi]
      exact h.inFlight i
  · by_cases hi : i = slot
    · subst hi
      rw [Quad.get_set_same]
      exact fun _ => rfl
    · rw [Quad.get_set_other _ _ hi]
      exact h.free i
  · by_cases hi : i = slot
    · subst hi
      simp [Lot.freeSlot, (List.nodup_cons.1 hnodup).1]
    · rw [Quad.get_set_other _ _ hi]
      exact (hmem (.lot i) (by simp [hi])).trans (h.lotWaits i)
  · by_cases hi : i = slot
    · subst hi
      simp [Lot.freeSlot]
    · rw [Quad.get_set_other _ _ hi]
      exact h.marked i
  · exact (hmem (.pack i) (by simp)).trans (h.packWaits i)

/-- The oldest ticket removed with nobody waiting (R162). -/
theorem ticketRemoved (h : u.Agrees f) {t : Ticket} {rest : List Ticket} (ht : u.tickets = t :: rest)
    (hw : u.waiters = []) : { u with tickets := rest }.Agrees f :=
  ⟨h.inFlight, h.free, h.lotWaits, h.marked, h.packWaits, h.hold, h.cause, h.nodup,
    (by have := h.stored; rw [ht, List.length_cons] at this; exact Nat.le_of_succ_le this), fun hne => absurd hw hne⟩

/-- As many tickets stored as before leave the accounts as they are. -/
theorem withTickets (h : u.Agrees f) {l : List Ticket} (hl : l.length = u.tickets.length) :
    { u with tickets := l }.Agrees f :=
  ⟨h.inFlight, h.free, h.lotWaits, h.marked, h.packWaits, h.hold, h.cause, h.nodup, (by rw [hl]; exact h.stored),
    fun hne => hl.trans (h.full hne)⟩

end Tlu.Agrees

/-! ### The operations of the tally -/

section Operations
variable {s : State} {f g : Fin 4 → Nat}

theorem storePackTicket_agrees {lane : Fin 4} (cause : CloseCause) (overrun : Bool) (h : s.tlu.Agrees f)
    (hopen : (s.tlu.packs.get lane).state = .opened) (hroom : s.tlu.tickets.length < 8) :
    (storePackTicket lane cause overrun s).tlu.Agrees f :=
  (((h.withTicket _ hroom).withPack (p := (s.tlu.packs.get lane).renew) hopen.symm
    ((h.cause lane).2 hopen).symm)).withChange _ _

theorem closePack_agrees {lane : Fin 4} (cause : CloseCause) (h : s.tlu.Agrees f)
    (hopen : (s.tlu.packs.get lane).state = .opened) : (closePack lane cause s).tlu.Agrees f := by
  obtain ⟨hroom, he⟩ | ⟨hfull, he⟩ := closePack_cases lane cause s
  · rw [he]
    exact storePackTicket_agrees cause false h hopen hroom
  · rw [he]
    exact h.packWaiting cause hopen hfull

theorem targetCheck_agrees (lane : Fin 4) (h : s.tlu.Agrees f) : (targetCheck lane s).tlu.Agrees f := by
  obtain ⟨hopen, -, he⟩ | he := targetCheck_cases lane s
  · rw [he]
    exact closePack_agrees .target h hopen
  · rw [he]
    exact h

theorem tallyPack_agrees (lane : Fin 4) (figure area : Nat) (h : s.tlu.Agrees f) :
    (tallyPack lane figure area s).tlu.Agrees f :=
  targetCheck_agrees lane (h.withPack rfl rfl)

theorem tallyLots_lots_get (set : Quad Bool) (figure area : Nat) (s : State) (i : Fin 4) :
    (tallyLots set figure area s).tlu.lots.get i = if set.get i then
      { s.tlu.lots.get i with
        hides := (s.tlu.lots.get i).hides + 1
        units := (s.tlu.lots.get i).units + figure
        area := (s.tlu.lots.get i).area + area }
      else s.tlu.lots.get i := by
  match i with
  | 0 | 1 | 2 | 3 => rfl

theorem raiseInFlight_lots_get (set : Quad Bool) (s : State) (i : Fin 4) :
    (raiseInFlight set s).tlu.lots.get i = if set.get i then
      { s.tlu.lots.get i with inFlight := (s.tlu.lots.get i).inFlight + 1 }
      else s.tlu.lots.get i := by
  match i with
  | 0 | 1 | 2 | 3 => rfl

/-- A hide packed into the lots of its set, each of which still counts it in flight (R156). -/
theorem tallyLots_agrees (set : Quad Bool) (figure area : Nat) (h : s.tlu.Agrees f)
    (hset : ∀ i, set.get i = true → f i ≠ 0) : (tallyLots set figure area s).tlu.Agrees f := by
  refine h.withLots (lots := (tallyLots set figure area s).tlu.lots)
    (fun i => ?_) (fun i => ?_) (fun i => ?_) (fun i => ?_) <;>
    rw [tallyLots_lots_get] <;> split
  · exact h.inFlight i
  · exact h.inFlight i
  · rename_i hi
    exact fun hfree => absurd hfree (h.not_free_of_inFlight (hset i hi))
  · exact h.free i
  · rfl
  · rfl
  · exact h.marked i
  · exact h.marked i

/-- The accounts after a fate's part of the tally, while the hide is still in flight for its lots (R138). -/
theorem tallyFate_agrees (fate : Fate) (e : Entry) (flags : FlagSet) (h : s.tlu.Agrees f)
    (hset : ∀ i, e.lots.get i = true → f i ≠ 0) : (tallyFate fate e flags s).tlu.Agrees f := by
  cases fate with
  | pack => exact tallyLots_agrees _ _ _ (tallyPack_agrees _ _ _ h) hset
  | scrap =>
    simp only [tallyFate]
    split
    · exact h.withPack rfl rfl
    · exact h
  | divert | none => exact h

theorem closeLot_agrees {slot : Fin 4} (h : s.tlu.Agrees f) (hclosing : (s.tlu.lots.get slot).state = .closing)
    (hflight : f slot = 0) (hmark : (s.tlu.lots.get slot).mark = false) : (closeLot slot s).tlu.Agrees f := by
  obtain ⟨hroom, he⟩ | ⟨hfull, he⟩ := closeLot_cases slot s
  · rw [he]
    exact (h.withTicket (lotTicket slot false (s.tlu.lots.get slot)) hroom).lotFreed hflight hmark
  · rw [he]
    exact h.lotWaiting hclosing hflight hmark hfull

/-- An in-flight decrement settles one hide that a slot counts (R156). -/
theorem lowerInFlight_agrees {slot : Fin 4} (h : s.tlu.Agrees f) (hslot : f slot = g slot + 1)
    (hother : ∀ i, i ≠ slot → g i = f i) : (lowerInFlight slot s).tlu.Agrees g := by
  have hcount := h.inFlight slot
  have hmark := h.not_marked_of_inFlight (i := slot) (by omega)
  have hnotfree := h.not_free_of_inFlight (i := slot) (by omega)
  have hlowered : (setLot slot { s.tlu.lots.get slot with inFlight := (s.tlu.lots.get slot).inFlight - 1 } s).tlu.Agrees g :=
    h.withLot (by show _ - 1 = _; omega) hother (fun hfree => absurd hfree hnotfree) rfl
      (fun hm => absurd (hmark.symm.trans hm) nofun)
  simp only [lowerInFlight]
  split
  · rename_i hclose
    refine closeLot_agrees hlowered ?_ ?_ ?_
    · simpa using hclose.1
    · have := hclose.2
      omega
    · simpa using hmark
  · exact hlowered

/-- The in-flight decrements of a drop settle the one hide that every slot of the list counts (R138). -/
theorem lowerAll_agrees (l : List (Fin 4)) (hl : l.Nodup) (h : s.tlu.Agrees (fun i => g i + (decide (i ∈ l)).toNat)) :
    (l.foldl (fun s i => lowerInFlight i s) s).tlu.Agrees g := by
  induction l generalizing s with
  | nil => simpa using h
  | cons slot l ih =>
    obtain ⟨hnew, hl⟩ := List.nodup_cons.1 hl
    refine ih hl (lowerInFlight_agrees h ?_ fun i hi => ?_)
    · simp [hnew]
    · simp [hi]

theorem releaseLots_agrees (set : Quad Bool) (h : s.tlu.Agrees (fun i => g i + (set.get i).toNat)) :
    (releaseLots set s).tlu.Agrees g := by
  refine lowerAll_agrees _ (List.Nodup.filter _ (by decide)) ?_
  have hmem (i : Fin 4) : decide (i ∈ fours.filter (fun i => set.get i)) = set.get i := by simp [mem_fours i]
  simpa only [hmem] using h

/-- A drop settles the entry that its lots still count (R132, R156). -/
theorem dropEntry_agrees {e : Entry} (h : s.tlu.Agrees (fun i => g i + (e.lots.get i).toNat)) :
    (dropEntry e s).tlu.Agrees g := by
  rw [dropEntry_eq]
  have hsettled : (settle e s).2.2.tlu.Agrees (fun i => g i + (e.lots.get i).toNat) := by
    rw [(settle_stock e s).tlu]
    exact h
  have hreleased := releaseLots_agrees (g := g) e.lots
    (tallyFate_agrees (decideFate e.lane (settle e s).2.1 (settle e s).2.2).1 e
      (decideFate e.lane (settle e s).2.1 (settle e s).2.2).2 hsettled (fun i hi => by simp [hi]))
  simp only [submit_tlu]
  split
  · exact hreleased
  · exact hreleased

theorem takes_opened {l : Lot} {lane : Fin 4} {flags : FlagSet} (h : l.takes lane flags = true) :
    l.state = .opened := by
  simp only [Lot.takes, Bool.and_eq_true] at h
  exact of_decide_eq_true h.1.1.2

/-- A hide that joins OPEN lots is one more in flight for each of them (R155). -/
theorem raiseInFlight_agrees (set : Quad Bool) (h : s.tlu.Agrees f)
    (hset : ∀ i, set.get i = true → (s.tlu.lots.get i).state = .opened) :
    (raiseInFlight set s).tlu.Agrees (fun i => f i + (set.get i).toNat) := by
  refine h.withLots (lots := (raiseInFlight set s).tlu.lots)
    (fun i => ?_) (fun i => ?_) (fun i => ?_) (fun i => ?_) <;>
    rw [raiseInFlight_lots_get] <;> split <;> rename_i hi
  · simp [hi, h.inFlight i]
  · simp [hi, h.inFlight i]
  · intro hfree
    have hfree' : (s.tlu.lots.get i).state = .free := hfree
    rw [hset i hi] at hfree'
    exact absurd hfree' nofun
  · exact h.free i
  · rfl
  · rfl
  · exact fun hm => absurd ((h.not_marked_of_opened (hset i hi)).symm.trans hm) nofun
  · exact h.marked i

/-- The waiter service after the oldest ticket is removed (R162, R164). -/
theorem waiterService_agrees {t : Ticket} {rest : List Ticket} (h : s.tlu.Agrees f) (ht : s.tlu.tickets = t :: rest) :
    (waiterService { s with tlu := { s.tlu with tickets := rest } }).tlu.Agrees f := by
  have hlength (t' : Ticket) : (rest ++ [t']).length = s.tlu.tickets.length := by simp [ht]
  unfold waiterService
  split
  · rename_i hw
    exact h.ticketRemoved ht hw
  · rename_i lane waiting hw
    exact ((h.packServed hw (nextPackNumber (s.tlu.packs.get lane).number)).withTickets (hlength _)).withChange _ _
  · rename_i slot waiting hw
    exact (h.lotServed hw).withTickets (hlength _)

end Operations

/-! ### The transit list (R124, R131) -/

theorem dropEntry_tallied {e : Entry} {rest : List Entry} {s : State} (hs : s.tallied)
    (he : s.tru.transit = e :: rest) : (dropEntry e { s with tru := { s.tru with transit := rest } }).tallied := by
  unfold State.tallied at hs ⊢
  rw [inFlightOf_bare (dropEntry_entries e _)]
  rw [he] at hs
  exact dropEntry_agrees (by simpa only [← inFlightOf_cons] using hs)

theorem dropReached_tallied (n : Nat) : KeptAlways State.tallied (dropReached n) := by
  induction n with
  | zero => exact fun _ hs => hs
  | succ n ih =>
    intro s hs
    unfold dropReached
    split
    · exact hs
    · rename_i e rest he
      split
      · exact ih _ (dropEntry_tallied hs he)
      · exact hs

theorem insertHide_tallied (m : ClosedHide) (lane : Fin 4) : KeptAlways State.tallied (insertHide m lane) := by
  intro s hs
  unfold insertHide
  simp only
  generalize he : newEntry m lane s = e
  have hset : ∀ i, e.lots.get i = true → (s.tlu.lots.get i).state = .opened := by
    intro i hi
    rw [← he] at hi
    simp only [newEntry, lotSetFor, Quad.get_map] at hi
    exact takes_opened hi
  have hraised := raiseInFlight_agrees e.lots hs hset
  have hlate := reportLateClose_stock e (raiseInFlight e.lots s)
  have hjoined : (reportLateClose e (raiseInFlight e.lots s)).tlu.Agrees
      (fun i => inFlightOf s.tru.transit i + (e.lots.get i).toNat) := by
    rw [hlate.tlu]
    exact hraised
  split
  · refine (checkNewOrder_stock e _).tallied ?_
    unfold State.tallied
    rw [inFlightOf_bare (dropEntry_entries e _), inFlightOf_bare hlate.entries]
    exact dropEntry_agrees hjoined
  · refine (checkNewOrder_stock e _).tallied ?_
    unfold State.tallied
    rw [inFlightOf_perm (placeEntry_perm _ _)]
    have hflight : inFlightOf (reportLateClose e (raiseInFlight e.lots s)).tru.transit = inFlightOf s.tru.transit :=
      inFlightOf_bare hlate.entries
    rw [← hflight] at hjoined
    simpa only [← inFlightOf_cons] using hjoined

theorem occurrence_stock (k : OneShotKind) (r : Record) (s : State) : SameStock s (occurrence k r s) := by
  refine ⟨occurrence_upstream k r s, ?_, ?_, ?_⟩ <;>
  · obtain ⟨-, h⟩ | ⟨-, h⟩ := occurrence_cases k r s
    · rw [h]
    · rw [h]

theorem transitTakes_tallied (m : ClosedHide) : KeptAlways State.tallied (transitTakes m) := by
  intro s hs
  unfold transitTakes
  split
  · exact hs
  · split
    · exact ((occurrence_stock _ _ _).trans (submit_stock _ _)).tallied hs
    · exact insertHide_tallied _ _ s hs

theorem offerHide_stock (tag : Tag) (raw : Nat) (flags : FlagSet) (s : State) :
    (offerHide tag raw flags s).2.tlu = s.tlu ∧ (offerHide tag raw flags s).2.tru = s.tru
      ∧ (offerHide tag raw flags s).2.stc = s.stc := by
  unfold offerHide
  split
  · split
    · unfold judgeReference
      simp only
      split
      · exact ⟨rfl, rfl, rfl⟩
      · split <;> exact ⟨rfl, rfl, rfl⟩
    · exact ⟨rfl, rfl, rfl⟩
  · exact ⟨rfl, rfl, rfl⟩
  · exact ⟨rfl, rfl, rfl⟩

theorem areaTakes_tallied (h : Hide) : KeptAlways State.tallied (areaTakes h) := by
  intro s hs
  obtain ⟨htlu, htru, -⟩ := offerHide_stock h.tag (rawArea h.widthSum (pitch s.settings)) h.flags s
  have hoffered : (offerHide h.tag (rawArea h.widthSum (pitch s.settings)) h.flags s).2.tallied := by
    unfold State.tallied
    rw [htlu, htru]
    exact hs
  exact transitTakes_tallied _ _ hoffered

theorem handOnAll_tallied (hides : List Hide) : KeptAlways State.tallied (handOnAll hides) :=
  KeptAlways.foldl areaTakes_tallied hides

theorem reportTableFull_stock (line : Count) (o : LineOutcome) (s : State) :
    SameStock s (reportTableFull line o s) := by
  unfold reportTableFull
  split
  · exact .refl s
  · exact occurrence_stock _ _ _

theorem tallied_travel : KeptByTravel State.tallied where
  pins _ _ hs := hs
  grid _ _ _ hs := hs
  cal _ _ hs := hs
  mdc _ _ hs := hs
  openChoices _ _ hs := hs
  slr _ _ _ hs := hs
  submit _ _ hs := hs
  line line pos runs s hs := by
    unfold trackLine
    split
    · exact handOnAll_tallied _ _ ((reportTableFull_stock _ _ _).tallied hs)
    · exact hs
  monitor line raw s hs := by
    obtain ⟨mask, marked, rpq, h⟩ := stuckMonitor_eq line raw s
    rw [h]
    exact hs
  tracking _ hs := hs
  closeAll flags s hs := handOnAll_tallied _ _ hs
  stamps h s hs := (stampAdvance_stock h s).tallied hs
  drops s hs := dropReached_tallied _ s hs

theorem tallied_events : KeptByEvents State.tallied :=
  tallied_travel.events
    (ready := fun h tag s hs => (acceptReady_stock h tag s).tallied hs)
    (done := fun h tag s hs => (acceptDone_stock h tag s).tallied hs)
    (fault := fun h cause s hs => (headFault_stock h cause s).tallied hs)
    (bytes := fun _ _ _ hs => hs)
    (gate := fun _ _ hs => hs)
    (change := fun lane s hs => by
      unfold packChangeExpires
      split
      · exact hs.withChange _ _
      · exact hs)

theorem targetCheck_tallied (lane : Fin 4) : KeptAlways State.tallied (targetCheck lane) := by
  intro s hs
  unfold State.tallied
  rw [targetCheck_transit]
  exact targetCheck_agrees lane hs

theorem tallied_requests : KeptByRequests State.tallied where
  set x _ _ _ _ hs _ _ := by
    cases x with
    | target l => exact targetCheck_tallied l _ hs
    | gatePresent l =>
      simp only [afterWrite]
      split <;> exact hs
    | _ => exact hs
  widths _ _ _ hs _ _ _ := hs
  maskAdd _ _ hs _ _ _ := hs
  maskDrop _ _ hs := hs
  start := tallied_travel.serveStart.keptBy
  pause := tallied_travel.servePause.keptBy
  resume := tallied_travel.serveResume.keptBy
  stop := tallied_travel.serveStop.keptBy
  clear := tallied_travel.serveClear.keptBy
  calib aRef := (tallied_travel.serveCalib aRef).keptBy
  fetch _ _ hs := hs
  rearm _ _ hs := hs
  ticket t rest s hs ht := by
    have hserved := waiterService_agrees hs ht
    unfold State.tallied
    convert hserved using 2
    unfold waiterService
    split <;> rfl
  packClose lane s hs hopen := by
    unfold State.tallied
    rw [closePack_transit]
    exact closePack_agrees .host hs hopen
  target lane _ s hs _ := targetCheck_tallied lane _ hs
  lotOpen slot number mask s hs hfree := by
    have hslot := hs.free slot hfree
    have hzero := hs.inFlight slot
    rw [hslot] at hzero
    exact hs.withLot hzero (fun _ _ => rfl) nofun (by rw [hslot]; rfl) nofun
  lotClose slot s hs hopen := by
    have hmark := hs.not_marked_of_opened hopen
    have hclosing : (setLot slot { s.tlu.lots.get slot with state := .closing } s).tallied :=
      hs.withLot (hs.inFlight slot) (fun _ _ => rfl) nofun rfl (fun hm => absurd (hmark.symm.trans hm) nofun)
    refine ⟨hclosing, fun hempty => ?_⟩
    unfold State.tallied
    rw [closeLot_tru]
    refine closeLot_agrees hclosing ?_ ?_ ?_
    · simp
    · exact (hs.inFlight slot).symm.trans hempty
    · simpa using hmark
  headClear h s hs _ := ((setChannel_stock _ _ _).trans (armingCheck_stock _ _)).tallied hs
  reset s hs := by
    refine ⟨fun i => ?_, fun i => ?_, fun i => ?_, fun i => ?_, fun i => ?_, fun i => ?_, fun i => ?_, List.nodup_nil,
      Nat.zero_le _, fun hne => absurd rfl hne⟩ <;>
    simp [softBlocks, Tlu.soften, Tlu.reset, Tru.reset, inFlightOf, Lot.freeSlot, Pack.renew, Pack.fresh]

theorem fullReset_tallied (cause : ResetCause) (strap : Bool) (s : State) : (fullReset cause strap s).tallied := by
  refine ⟨fun i => ?_, fun i => ?_, fun i => ?_, fun i => ?_, fun i => ?_, fun i => ?_, fun i => ?_, List.nodup_nil,
    Nat.zero_le _, fun hne => absurd rfl hne⟩ <;>
  simp [fullReset, State.reset, Tlu.reset, Tru.reset, inFlightOf, Lot.freeSlot, Pack.fresh]

theorem step_tallied {s t : State} (hs : s.tallied) (ht : step s = .next t) : t.tallied :=
  step_kept (P := State.tallied) ⟨fun _ _ hs => hs, fun _ _ hs => hs⟩ tallied_requests tallied_events
    (tallied_travel.encoder fun _ _ hs => hs) (fun cause strap s _ => fullReset_tallied cause strap s) hs ht

/-- Settles O60: the accounts are kept against the entries in flight through every close, insertion, drop and waiter
served. -/
theorem stepKeepsTheTallyInAgreement : Obligations.StepKeepsTheTallyInAgreement := fun _ _ hs ht =>
  tallyAgrees_iff.2 (step_tallied (tallyAgrees_iff.1 hs) ht)

end Sys2Proof.Machine

/-! Hide tags (R36): the free tag an opening takes, the tags of the table through a line, and the tags the table and
the transit list hold together while hides are handed from one to the other. -/

namespace Sys2Proof.Machine

/-! ### The next-tag counter -/

theorem stepTag_ne_zero {t : Tag} (_h : t ≠ 0#16) : stepTag t ≠ 0#16 := by
  unfold stepTag
  split
  · decide
  · bv_omega

theorem stepTag_iterate_ne_zero {t : Tag} (h : t ≠ 0#16) (j : Nat) : stepTag^[j] t ≠ 0#16 := by
  induction j with
  | zero => exact h
  | succ j ih =>
    rw [Function.iterate_succ_apply']
    exact stepTag_ne_zero ih

theorem stepTag_toNat {t : Tag} (_h : t ≠ 0#16) : (stepTag t).toNat = t.toNat % 65535 + 1 := by
  unfold stepTag
  split
  · rename_i ht
    rw [ht]
    rfl
  · rename_i ht
    have hlt : t.toNat < 65535 := by bv_omega
    rw [Nat.mod_eq_of_lt hlt]
    bv_omega

/-- The counter runs round the 65535 tags. -/
theorem stepTag_iterate_toNat {t : Tag} (h : t ≠ 0#16) (j : Nat) :
    (stepTag^[j] t).toNat = (t.toNat - 1 + j) % 65535 + 1 := by
  induction j with
  | zero =>
    have hlt : t.toNat - 1 < 65535 := by bv_omega
    have hpos : 0 < t.toNat := by bv_omega
    simp only [Function.iterate_zero, id_eq, Nat.add_zero, Nat.mod_eq_of_lt hlt]
    omega
  | succ j ih =>
    rw [Function.iterate_succ_apply', stepTag_toNat (stepTag_iterate_ne_zero h j), ih]
    omega

theorem stepTag_iterate_injOn {t : Tag} (h : t ≠ 0#16) {i j : Nat} (hi : i < 65535) (hj : j < 65535)
    (he : stepTag^[i] t = stepTag^[j] t) : i = j := by
  have := congrArg BitVec.toNat he
  rw [stepTag_iterate_toNat h, stepTag_iterate_toNat h] at this
  omega

/-- The tag taken is reached past held tags alone, and is held only when the steps ran out. -/
theorem freeTag_reaches (held : List Tag) (n : Nat) (t : Tag) :
    ∃ k ≤ n, freeTag held n t = stepTag^[k] t ∧ (∀ j < k, stepTag^[j] t ∈ held)
      ∧ (freeTag held n t ∈ held → k = n) := by
  induction n generalizing t with
  | zero => exact ⟨0, Nat.le_refl 0, rfl, nofun, fun _ => rfl⟩
  | succ n ih =>
    unfold freeTag
    split
    · rename_i hheld
      obtain ⟨k, hk, he, hall, hend⟩ := ih (stepTag t)
      refine ⟨k + 1, Nat.succ_le_succ hk, he, fun j hj => ?_, fun hin => by rw [hend hin]⟩
      cases j with
      | zero => exact hheld
      | succ j => exact hall j (Nat.lt_of_succ_lt_succ hj)
    · rename_i hfree
      exact ⟨0, Nat.zero_le _, rfl, nofun, fun hin => absurd hin hfree⟩

/-- With fewer tags held than there are, the first tag from the counter on that is not held is found. -/
theorem freeTag_spec {held : List Tag} {t : Tag} (ht : t ≠ 0#16) (hlen : held.length < 65535) :
    ∃ k, freeTag held held.length t = stepTag^[k] t ∧ (∀ j < k, stepTag^[j] t ∈ held)
      ∧ freeTag held held.length t ∉ held := by
  obtain ⟨k, hk, he, hall, hend⟩ := freeTag_reaches held held.length t
  refine ⟨k, he, hall, fun hin => ?_⟩
  have hall' : ∀ j < held.length + 1, stepTag^[j] t ∈ held := fun j hj => by
    obtain hj | rfl := Nat.lt_succ_iff_lt_or_eq.1 hj
    · exact hall j (by rw [hend hin]; exact hj)
    · rw [← hend hin, ← he]
      exact hin
  have hnodup : ((List.range (held.length + 1)).map (fun j => stepTag^[j] t)).Nodup := by
    refine List.Nodup.map_on (fun i hi j hj hij => ?_) List.nodup_range
    rw [List.mem_range] at hi hj
    exact stepTag_iterate_injOn ht (by omega) (by omega) hij
  have hsub : (List.range (held.length + 1)).map (fun j => stepTag^[j] t) ⊆ held := by
    intro x hx
    obtain ⟨j, hj, rfl⟩ := List.mem_map.1 hx
    exact hall' j (List.mem_range.1 hj)
  have := (hnodup.subperm hsub).length_le
  simp at this

/-! ### Lists of tags -/

/-- No tag twice, and not tag 0. -/
def TagsSound (l : List Tag) : Prop := l.Nodup ∧ 0#16 ∉ l

theorem TagsSound.subperm {l l' : List Tag} (h : TagsSound l) (hl : l'.Subperm l) : TagsSound l' := by
  obtain ⟨l'', hperm, hsub⟩ := hl
  exact ⟨hperm.nodup_iff.1 (h.1.sublist hsub), fun hz => h.2 (hsub.subset (hperm.mem_iff.2 hz))⟩

theorem TagsSound.perm {l l' : List Tag} (h : TagsSound l) (hl : l'.Perm l) : TagsSound l' := h.subperm hl.subperm

theorem TagsSound.cons {l : List Tag} {t : Tag} (h : TagsSound l) (hzero : t ≠ 0#16) (hnew : t ∉ l) :
    TagsSound (t :: l) :=
  ⟨List.nodup_cons.2 ⟨hnew, h.1⟩, fun hz => (List.mem_cons.1 hz).elim (fun he => hzero he.symm) h.2⟩

/-- The tags of some hides. -/
def tagsOf (l : List Hide) : List Tag := l.map (fun h => h.tag)

/-! ### The table through a line (R38) -/

@[simp] theorem absorb_tag (a b : Hide) : (absorb a b).tag = a.tag := rfl

theorem foldl_absorb_tag (l : List Hide) (a : Hide) : (l.foldl absorb a).tag = a.tag := by
  induction l generalizing a with
  | nil => rfl
  | cons b l ih => exact (ih _).trans (absorb_tag a b)

/-- What the merges leave of a hide, if anything (R41). -/
def merged (groups : List Group) (table : List Hide) (h : Hide) : Option Hide :=
  match groupOf groups h.tag with
  | none => some h
  | some g =>
      if h.tag = g.survivor then
        some ((table.filter (fun b => decide (b.tag ∈ g.tags) && !decide (b.tag = h.tag))).foldl absorb h)
      else none

theorem mergedTable_eq (groups : List Group) (table : List Hide) :
    mergedTable groups table = table.filterMap (merged groups table) := rfl

theorem merged_tag {groups : List Group} {table : List Hide} {h h' : Hide} (he : merged groups table h = some h') :
    h'.tag = h.tag := by
  unfold merged at he
  split at he
  · rw [← Option.some.inj he]
  · split at he
    · rw [← Option.some.inj he, foldl_absorb_tag]
    · exact absurd he nofun

theorem filterMap_tags_sublist (f : Hide → Option Hide) (hf : ∀ h h', f h = some h' → h'.tag = h.tag)
    (l : List Hide) : (tagsOf (l.filterMap f)).Sublist (tagsOf l) := by
  induction l with
  | nil => exact .slnil
  | cons h l ih =>
    cases he : f h with
    | none => simpa [tagsOf, he] using ih.cons h.tag
    | some h' => simpa [tagsOf, he, hf h h' he] using ih.cons_cons h.tag

theorem mergedTable_tags_sublist (groups : List Group) (table : List Hide) :
    (tagsOf (mergedTable groups table)).Sublist (tagsOf table) :=
  filterMap_tags_sublist _ (fun _ _ he => merged_tag he) table

/-- The openings of a line so far hold sound tags beside those held elsewhere, in a table within its capacity. -/
structure Openings.Sound (held : List Tag) (o : Openings) : Prop where
  tags : TagsSound (tagsOf o.table ++ held)
  next : o.nextTag ≠ 0#16
  room : o.table.length ≤ 16

theorem placeRun_sound {x : LineInput} (hheld : x.held.length ≤ 24) (shadow : List Span) {o : Openings}
    (ho : o.Sound x.held) (r : Run × Option Tag) : (placeRun x shadow o r).Sound x.held := by
  unfold placeRun
  split
  · exact ⟨ho.tags, ho.next, ho.room⟩
  · split
    · rename_i hroom
      simp only [Config.tableSize] at hroom
      have hlen : (o.table.map (fun h => h.tag) ++ x.held).length < 65535 := by
        simp only [List.length_append, List.length_map]
        omega
      obtain ⟨k, hk, -, hnew⟩ := freeTag_spec ho.next hlen
      have hzero : freeTag (o.table.map (fun h => h.tag) ++ x.held)
          (o.table.map (fun h => h.tag) ++ x.held).length o.nextTag ≠ 0#16 := by
        rw [hk]
        exact stepTag_iterate_ne_zero ho.next k
      refine ⟨(ho.tags.cons hzero hnew).perm ?_, stepTag_ne_zero hzero, ?_⟩
      · simp only [tagsOf, List.map_append, List.map_cons, List.map_nil, openedHide, List.append_assoc,
          List.singleton_append]
        exact List.perm_middle
      · simp only [List.length_append, List.length_singleton]
        omega
    · exact ⟨ho.tags, ho.next, ho.room⟩

theorem placeRuns_sound {x : LineInput} (hheld : x.held.length ≤ 24) (shadow : List Span)
    (l : List (Run × Option Tag)) {o : Openings} (ho : o.Sound x.held) :
    (l.foldl (placeRun x shadow) o).Sound x.held := by
  induction l generalizing o with
  | nil => exact ho
  | cons r l ih => exact ih (placeRun_sound hheld shadow ho r)

@[simp] theorem closeSpot_tag (h : Hide) : (closeSpot h).tag = h.tag := rfl

@[simp] theorem stepHide_tag (x : LineInput) (mine : List Run) (h : Hide) : (stepHide x mine h).1.tag = h.tag := by
  unfold stepHide
  split
  · rfl
  · simp only
    split <;> rfl

@[simp] theorem lineOfHide_tag (x : LineInput) (assigned : List (Run × Tag)) (h : Hide) :
    (lineOfHide x assigned h).1.tag = h.tag := by
  simp only [lineOfHide]
  split
  · exact stepHide_tag x _ h
  · exact stepHide_tag x _ h

/-- The openings of a line, from the table after its merges (R41 to R46). -/
def lineOpenings (x : LineInput) (t : Htk) : Openings :=
  (x.runs.map (fun r => (r, assignedTag (resolvedGroups x.line t.table x.runs) t.table r))).foldl
    (placeRun x t.shadow) ⟨mergedTable (resolvedGroups x.line t.table x.runs) t.table, t.nextTag, [], []⟩

/-- The hides of the table after the openings, each through steps 5 to 8 (R38). -/
def steppedHides (x : LineInput) (t : Htk) : List (Hide × CloseMark) :=
  (lineOpenings x t).table.map (lineOfHide x (lineOpenings x t).assigned)

theorem lineOutcome_eq (x : LineInput) (t : Htk) : lineOutcome x t =
    { staying := ((steppedHides x t).filter (fun h => decide (h.2 = .stays))).map (fun h => h.1)
      closing := sortBy (fun h => h.tag.toNat)
        (((steppedHides x t).filter (fun h => !decide (h.2 = .stays))).map (fun h => h.1))
      nextTag := (lineOpenings x t).nextTag
      shadow := shadowList ((lineOpenings x t).notOpened.map Run.span
        ++ ((steppedHides x t).filter (fun h => decide (h.2 = .long))).flatMap (fun h => h.1.lastRuns))
      notOpened := (lineOpenings x t).notOpened } := rfl

/-- The hides that stay and those that close are together the hides of the table after the openings. -/
theorem lineOutcome_hides_perm (x : LineInput) (t : Htk) :
    ((lineOutcome x t).closing ++ (lineOutcome x t).staying).Perm
      ((lineOpenings x t).table.map (fun h => (lineOfHide x (lineOpenings x t).assigned h).1)) := by
  have hsplit := List.filter_append_perm (fun h : Hide × CloseMark => decide (h.2 = .stays)) (steppedHides x t)
  have hhides := (List.perm_append_comm.trans hsplit).map (fun h => h.1)
  simp only [List.map_append, steppedHides, List.map_map] at hhides
  exact ((sortBy_perm _ _).append_right _).trans hhides

theorem lineOpenings_sound {x : LineInput} {t : Htk} (hheld : x.held.length ≤ 24) (hroom : t.table.length ≤ 16)
    (hnext : t.nextTag ≠ 0#16) (htags : TagsSound (tagsOf t.table ++ x.held)) :
    (lineOpenings x t).Sound x.held := by
  have hsub := mergedTable_tags_sublist (resolvedGroups x.line t.table x.runs) t.table
  have hlen := hsub.length_le
  simp only [tagsOf, List.length_map] at hlen
  exact placeRuns_sound hheld _ _
    ⟨htags.subperm (hsub.append_right _).subperm, hnext, Nat.le_trans hlen hroom⟩

/-! ### The tags held while hides are handed on -/

/-- The tags of some hides that have left the table, of the table and of the transit list are sound together; table
and list are within their capacities. -/
structure State.tagsSoundWith (s : State) (hides : List Hide) : Prop where
  tags : TagsSound (tagsOf hides ++ s.heldTags)
  next : s.htk.nextTag ≠ 0#16
  table : s.htk.table.length ≤ 16
  transit : s.tru.transit.length ≤ 24

/-- Tags are held soundly, in a table and a list within their capacities. -/
def State.tagged (s : State) : Prop := s.tagsSoundWith []

theorem tagged_of {s : State} (hcap : s.withinCapacity) (hs : s.tagsDistinct) : s.tagged :=
  ⟨⟨hs.1, hs.2.1⟩, hs.2.2, hcap.1.1, hcap.1.2.2⟩

theorem State.tagged.distinct {s : State} (h : s.tagged) : s.tagsDistinct := ⟨h.tags.1, h.tags.2, h.next⟩

/-- The Hide Tracker as it was, and no tag come to the transit list but from the hides that have left. -/
theorem State.tagsSoundWith.moved {s t : State} {hides left : List Hide} (h : s.tagsSoundWith hides)
    (hhtk : t.htk = s.htk) (htransit : t.tru.transit.length ≤ 24)
    (htags : (tagsOf left ++ t.tru.transit.map (fun e => e.tag)).Subperm
      (tagsOf hides ++ s.tru.transit.map (fun e => e.tag))) : t.tagsSoundWith left := by
  refine ⟨h.tags.subperm ?_, by rw [hhtk]; exact h.next, by rw [hhtk]; exact h.table, htransit⟩
  have hswap (hides : List Hide) (s : State) : (tagsOf hides ++ s.heldTags).Perm
      (s.htk.table.map (fun h => h.tag) ++ (tagsOf hides ++ s.tru.transit.map (fun e => e.tag))) := by
    rw [State.heldTags, ← List.append_assoc, ← List.append_assoc]
    exact List.perm_append_comm.append_right _
  refine (hswap left t).subperm.trans (.trans ?_ (hswap hides s).symm.subperm)
  rw [hhtk]
  exact (List.subperm_append_left _).2 htags

theorem SameStock.tagsSoundWith {s t : State} {hides : List Hide} (h : SameStock s t) (hs : s.tagsSoundWith hides) :
    t.tagsSoundWith hides :=
  hs.moved h.upstream.htk (by rw [h.transit_length]; exact hs.transit) (by rw [h.tags])

theorem dropEntry_tags (e : Entry) (s : State) :
    (dropEntry e s).tru.transit.map (fun e => e.tag) = s.tru.transit.map (fun e => e.tag) := by
  have hmap (l : List Entry) : l.map (fun e => e.tag) = (l.map Entry.bare).map (fun e => e.tag) := by
    rw [List.map_map]
    rfl
  rw [hmap, dropEntry_entries, ← hmap]

theorem dropEntry_length (e : Entry) (s : State) : (dropEntry e s).tru.transit.length = s.tru.transit.length := by
  simpa using congrArg List.length (dropEntry_tags e s)

/-- Drops only take entries from the list (R131). -/
theorem dropReached_tags (n : Nat) (s : State) :
    ((dropReached n s).tru.transit.map (fun e => e.tag)).Sublist (s.tru.transit.map (fun e => e.tag)) := by
  induction n generalizing s with
  | zero => exact .refl _
  | succ n ih =>
    unfold dropReached
    split
    · exact .refl _
    · rename_i e rest he
      split
      · refine (ih _).trans ?_
        rw [dropEntry_tags, he]
        exact List.sublist_cons_self _ _
      · exact .refl _

/-- An insertion leaves the list as it was, or with the hide's tag added (R129). -/
theorem insertHide_tags (m : ClosedHide) (lane : Fin 4) (s : State) :
    (insertHide m lane s).tru.transit.map (fun e => e.tag) = s.tru.transit.map (fun e => e.tag)
    ∨ ((insertHide m lane s).tru.transit.map (fun e => e.tag)).Perm (m.tag :: s.tru.transit.map (fun e => e.tag)) := by
  unfold insertHide
  simp only
  have hlate := (reportLateClose_stock (newEntry m lane s) (raiseInFlight (newEntry m lane s).lots s)).tags
  split
  · rw [(checkNewOrder_stock _ _).tags, dropEntry_tags, hlate]
    exact .inl rfl
  · rw [(checkNewOrder_stock _ _).tags]
    refine .inr (((placeEntry_perm _ _).map _).trans ?_)
    rw [List.map_cons, hlate]
    exact .refl _

theorem transitTakes_tags (m : ClosedHide) (s : State) (hs : s.tru.transit.length ≤ 24) :
    ((transitTakes m s).tru.transit.map (fun e => e.tag)).Subperm (m.tag :: s.tru.transit.map (fun e => e.tag))
    ∧ (transitTakes m s).tru.transit.length ≤ 24 := by
  have hsame {t : State} (h : t.tru.transit.map (fun e => e.tag) = s.tru.transit.map (fun e => e.tag)) :
      (t.tru.transit.map (fun e => e.tag)).Subperm (m.tag :: s.tru.transit.map (fun e => e.tag))
      ∧ t.tru.transit.length ≤ 24 := by
    have hlen : t.tru.transit.length = s.tru.transit.length := by simpa using congrArg List.length h
    exact ⟨by rw [h]; exact (List.sublist_cons_self _ _).subperm, by omega⟩
  unfold transitTakes
  split
  · exact hsame rfl
  · rename_i lane _
    split
    · exact hsame (by rw [submit_tru, (occurrence_stock _ _ _).tags])
    · rename_i hroom
      obtain h | h := insertHide_tags m lane s
      · exact hsame h
      · have hlen := h.length_eq
        simp only [List.length_map, List.length_cons, Config.transitSize] at hlen hroom
        exact ⟨h.subperm, by omega⟩

theorem areaTakes_tags (h : Hide) (s : State) (hs : s.tru.transit.length ≤ 24) :
    ((areaTakes h s).tru.transit.map (fun e => e.tag)).Subperm (h.tag :: s.tru.transit.map (fun e => e.tag))
    ∧ (areaTakes h s).tru.transit.length ≤ 24 := by
  obtain ⟨-, htru, -⟩ := offerHide_stock h.tag (rawArea h.widthSum (pitch s.settings)) h.flags s
  have htakes := transitTakes_tags (measureHide
    (offerHide h.tag (rawArea h.widthSum (pitch s.settings)) h.flags s).2.settings
    (offerHide h.tag (rawArea h.widthSum (pitch s.settings)) h.flags s).2.lcn.widths h
    (rawArea h.widthSum (pitch s.settings)) (offerHide h.tag (rawArea h.widthSum (pitch s.settings)) h.flags s).1)
    (offerHide h.tag (rawArea h.widthSum (pitch s.settings)) h.flags s).2 (by rw [htru]; exact hs)
  rw [htru] at htakes
  exact htakes

theorem areaTakes_tagged {h : Hide} {hides : List Hide} {s : State} (hs : s.tagsSoundWith (h :: hides)) :
    (areaTakes h s).tagsSoundWith hides := by
  obtain ⟨htags, hlen⟩ := areaTakes_tags h s hs.transit
  refine hs.moved (areaTakes_measuring h s).htk hlen ?_
  exact ((List.subperm_append_left (tagsOf hides)).2 htags).trans List.perm_middle.subperm

theorem handOnAll_tagged (hides : List Hide) {s : State} (hs : s.tagsSoundWith hides) : (handOnAll hides s).tagged := by
  unfold handOnAll
  induction hides generalizing s with
  | nil => exact hs
  | cons h hides ih => exact ih (areaTakes_tagged hs)

/-- The tags after a line, beside those of the hides it closes (R38). -/
theorem lineOutcome_tagged (line pos : Count) (runs : List Run) {s : State} (hs : s.tagged) :
    State.tagsSoundWith { s with htk := { s.htk with
      table := (lineOutcome (lineInput line pos runs s) s.htk).staying
      nextTag := (lineOutcome (lineInput line pos runs s) s.htk).nextTag
      shadow := (lineOutcome (lineInput line pos runs s) s.htk).shadow
      line := line } } (lineOutcome (lineInput line pos runs s) s.htk).closing := by
  have hheld : (lineInput line pos runs s).held.length ≤ 24 := by
    simpa [lineInput] using hs.transit
  have hopened := lineOpenings_sound (x := lineInput line pos runs s) (t := s.htk) hheld hs.table hs.next hs.tags
  have hperm := lineOutcome_hides_perm (lineInput line pos runs s) s.htk
  have htags := hperm.map (fun h => h.tag)
  simp only [List.map_append, List.map_map, Function.comp_def, lineOfHide_tag] at htags
  have hlen := hperm.length_eq
  simp only [List.length_append, List.length_map] at hlen
  refine ⟨hopened.tags.perm ?_, hopened.next, ?_, hs.transit⟩
  · rw [State.heldTags, ← List.append_assoc]
    exact htags.append_right _
  · have := hopened.room
    show (lineOutcome (lineInput line pos runs s) s.htk).staying.length ≤ 16
    omega

theorem trackLine_tagged (line pos : Count) (runs : List Run) : KeptAlways State.tagged (trackLine line pos runs) := by
  intro s hs
  unfold trackLine
  split
  · exact handOnAll_tagged _ ((reportTableFull_stock _ _ _).tagsSoundWith (lineOutcome_tagged line pos runs hs))
  · exact hs

theorem closingHides_tags (flags : FlagSet) (table : List Hide) :
    (tagsOf (closingHides flags table)).Perm (tagsOf table) := by
  have h := (sortBy_perm (fun h : Hide => h.tag.toNat)
    (table.map (fun h => closeSpot { h with flags := h.flags ||| flags }))).map (fun h => h.tag)
  rw [List.map_map] at h
  exact h

theorem tagged_travel : KeptByTravel State.tagged where
  pins _ _ hs := ⟨hs.tags, hs.next, hs.table, hs.transit⟩
  grid _ _ _ hs := ⟨hs.tags, hs.next, hs.table, hs.transit⟩
  cal _ _ hs := ⟨hs.tags, hs.next, hs.table, hs.transit⟩
  mdc _ _ hs := ⟨hs.tags, hs.next, hs.table, hs.transit⟩
  openChoices _ _ hs := ⟨hs.tags, hs.next, hs.table, hs.transit⟩
  slr _ _ _ hs := ⟨hs.tags, hs.next, hs.table, hs.transit⟩
  submit r s hs := (submit_stock r s).tagsSoundWith hs
  line := trackLine_tagged
  monitor line raw s hs := by
    obtain ⟨mask, marked, rpq, h⟩ := stuckMonitor_eq line raw s
    rw [h]
    exact ⟨hs.tags, hs.next, hs.table, hs.transit⟩
  tracking _ hs := ⟨hs.tags, hs.next, hs.table, hs.transit⟩
  closeAll flags s hs := by
    refine handOnAll_tagged _ ⟨hs.tags.perm ?_, hs.next, Nat.zero_le _, hs.transit⟩
    exact (closingHides_tags flags s.htk.table).append_right _
  stamps h s hs := (stampAdvance_stock h s).tagsSoundWith hs
  drops s hs := by
    have hsub := dropReached_tags s.tru.transit.length s
    have hlen := hsub.length_le
    simp only [List.length_map] at hlen
    exact hs.moved (dropReached_upstream _ _).htk (Nat.le_trans hlen hs.transit) hsub.subperm

/-- Tags are held soundly as long as the Hide Tracker and the transit list stand. -/
theorem State.tagged.of_same {s t : State} (hs : s.tagged) (hhtk : t.htk = s.htk)
    (htransit : t.tru.transit = s.tru.transit) : t.tagged :=
  hs.moved hhtk (by rw [htransit]; exact hs.transit) (by rw [htransit])

theorem tagged_events : KeptByEvents State.tagged :=
  tagged_travel.events
    (ready := fun h tag s hs => (acceptReady_stock h tag s).tagsSoundWith hs)
    (done := fun h tag s hs => (acceptDone_stock h tag s).tagsSoundWith hs)
    (fault := fun h cause s hs => (headFault_stock h cause s).tagsSoundWith hs)
    (bytes := fun _ _ _ hs => hs.of_same rfl rfl)
    (gate := fun _ _ hs => hs.of_same rfl rfl)
    (change := fun lane s hs => by
      unfold packChangeExpires
      split
      · exact hs.of_same rfl rfl
      · exact hs)

theorem waiterService_transit (s : State) : (waiterService s).tru.transit = s.tru.transit := by
  unfold waiterService
  split <;> rfl

theorem afterWrite_transit (x : Setting) (s : State) : (afterWrite x s).tru.transit = s.tru.transit := by
  cases x with
  | target l => exact targetCheck_transit l s
  | gatePresent l =>
    simp only [afterWrite]
    split <;> rfl
  | _ => rfl

theorem tagged_requests : KeptByRequests State.tagged where
  set x _ _ _ _ hs _ _ := hs.of_same (afterWrite_upstream x _).htk (afterWrite_transit x _)
  widths _ _ _ hs _ _ _ := hs.of_same rfl rfl
  maskAdd _ _ hs _ _ _ := hs.of_same rfl rfl
  maskDrop _ _ hs := hs.of_same rfl rfl
  start := tagged_travel.serveStart.keptBy
  pause := tagged_travel.servePause.keptBy
  resume := tagged_travel.serveResume.keptBy
  stop := tagged_travel.serveStop.keptBy
  clear := tagged_travel.serveClear.keptBy
  calib aRef := (tagged_travel.serveCalib aRef).keptBy
  fetch _ _ hs := hs.of_same rfl rfl
  rearm _ _ hs := hs.of_same rfl rfl
  ticket _ _ _ hs _ := hs.of_same (waiterService_upstream _).htk (waiterService_transit _)
  packClose _ _ hs _ := hs.of_same (closePack_upstream _ _ _).htk (closePack_transit _ _ _)
  target _ _ _ hs _ := hs.of_same (targetCheck_upstream _ _).htk (targetCheck_transit _ _)
  lotOpen _ _ _ _ hs _ := hs.of_same rfl rfl
  lotClose _ _ hs _ := ⟨hs.of_same rfl rfl, fun _ =>
    hs.of_same (closeLot_upstream _ _).htk (by rw [closeLot_tru]; rfl)⟩
  headClear _ _ hs _ := ((setChannel_stock _ _ _).trans (armingCheck_stock _ _)).tagsSoundWith hs
  reset _ hs := ⟨⟨List.nodup_nil, List.not_mem_nil⟩, hs.next, Nat.zero_le _, Nat.zero_le _⟩

theorem fullReset_tagged (cause : ResetCause) (strap : Bool) (s : State) : (fullReset cause strap s).tagged :=
  ⟨⟨List.nodup_nil, List.not_mem_nil⟩, (by decide : (1#16 : Tag) ≠ 0#16), Nat.zero_le _, Nat.zero_le _⟩

theorem step_tagged {s t : State} (hs : s.tagged) (ht : step s = .next t) : t.tagged :=
  step_kept (P := State.tagged) ⟨fun _ _ hs => hs.of_same rfl rfl, fun _ _ hs => hs.of_same rfl rfl⟩
    tagged_requests tagged_events (tagged_travel.encoder fun _ _ hs => hs.of_same rfl rfl)
    (fun cause strap s _ => fullReset_tagged cause strap s) hs ht

/-- Settles O58: a hide keeps its tag from the table to the transit list, merges and drops only free tags, and an
opening takes one that neither holds. -/
theorem stepKeepsTagsDistinct : Obligations.StepKeepsTagsDistinct := fun _ _ hcap hs ht =>
  (step_tagged (tagged_of hcap hs) ht).distinct

end Sys2Proof.Machine

/-! Head channels and stamp orders (R107, R108). The pairing is kept head by head, between a channel and the tags and
states of its head's orders. An entry that has left the list to be dropped still counts among them until it is
settled. -/

namespace Sys2Proof.Machine

/-! ### One channel and the orders of its head -/

/-- The state that no order takes but in its channel's hand: none of ARMING, ARMED and FIRING. -/
def OrderState.loose (st : OrderState) : Prop := st ≠ .arming ∧ st ≠ .armed ∧ st ≠ .firing

/-- The state of the order in hand on a channel that is not printing a detached order (R108). -/
def Channel.handState (c : Channel) : Option OrderState :=
  match c.state with
  | .arming => some .arming
  | .armed => some .armed
  | .printing => some .firing
  | .idle | .fault => none

/-- A channel pairs with the orders of its head, given by tag and state. -/
structure Hand (c : Channel) (orders : List (Tag × OrderState)) : Prop where
  paired : c.paired
  held : ∀ t, c.tag = some t → c.detached = false → ∃ st, (t, st) ∈ orders
  inHand : ∀ x ∈ orders, c.tag = some x.1 → c.detached = false → c.handState = some x.2
  loose : ∀ x ∈ orders, (c.tag = some x.1 → c.detached = true) → x.2.loose

/-- The orders of a head in a list, by tag and state. -/
def ordersFor (h : Fin 4) (l : List Entry) : List (Tag × OrderState) :=
  l.filterMap (fun e => e.stamp.bind (fun o => if o.head = h then some (e.tag, o.state) else none))

theorem mem_ordersFor {h : Fin 4} {l : List Entry} {x : Tag × OrderState} :
    x ∈ ordersFor h l ↔ ∃ e ∈ l, ∃ o, e.stamp = some o ∧ o.head = h ∧ (e.tag, o.state) = x := by
  simp only [ordersFor, List.mem_filterMap, Option.bind_eq_some_iff, Option.ite_none_right_eq_some,
    Option.some.injEq]

theorem mem_tags_of_mem_ordersFor {h : Fin 4} {l : List Entry} {x : Tag × OrderState} (hx : x ∈ ordersFor h l) :
    x.1 ∈ l.map (fun e => e.tag) := by
  obtain ⟨e, he, o, -, -, rfl⟩ := mem_ordersFor.1 hx
  exact List.mem_map.2 ⟨e, he, rfl⟩

/-- Every channel pairs with its head's orders in the list. -/
def Paired (stc : Quad Channel) (l : List Entry) : Prop := ∀ h, Hand (stc.get h) (ordersFor h l)

theorem Channel.paired.handState_of_tag {c : Channel} (hc : c.paired) {t : Tag} (ht : c.tag = some t) :
    c.state = .arming ∨ c.state = .armed ∨ c.state = .printing := by
  obtain ⟨-, -, htag, -⟩ := hc
  rw [ht] at htag
  revert htag
  cases c.state <;> simp

/-- The pairing of the table of R108 for one order, as the order's state in hand and its looseness out of hand. -/
theorem orderStates_iff {c : Channel} (hc : c.paired) (t : Tag) (st : OrderState) :
    ((c.state = .arming ∧ c.tag = some t ↔ st = .arming) ∧ (c.state = .armed ∧ c.tag = some t ↔ st = .armed)
      ∧ (c.state = .printing ∧ c.tag = some t ∧ c.detached = false ↔ st = .firing))
    ↔ (c.tag = some t → c.detached = false → c.handState = some st)
      ∧ ((c.tag = some t → c.detached = true) → st.loose) := by
  have hstate := hc.handState_of_tag (t := t)
  have hdetached := hc.2.2.2
  by_cases ht : c.tag = some t
  · simp only [ht, forall_const] at hstate
    cases hd : c.detached
    · obtain hst | hst | hst := hstate <;>
        simp only [hst, ht, Channel.handState, OrderState.loose] <;> cases st <;> simp
    · simp only [hdetached hd, ht, OrderState.loose]
      cases st <;> simp
  · simp only [ht, OrderState.loose]
    cases st <;> simp

theorem channelsPaired_iff {s : State} : s.channelsPaired ↔ Paired s.stc s.tru.transit := by
  constructor
  · rintro ⟨hchannels, horders⟩ h
    obtain ⟨hpaired, hheld⟩ := hchannels h
    have hall : ∀ x ∈ ordersFor h s.tru.transit,
        ((s.stc.get h).tag = some x.1 → (s.stc.get h).detached = false → (s.stc.get h).handState = some x.2)
        ∧ (((s.stc.get h).tag = some x.1 → (s.stc.get h).detached = true) → x.2.loose) := by
      intro x hx
      obtain ⟨e, he, o, ho, rfl, rfl⟩ := mem_ordersFor.1 hx
      exact (orderStates_iff hpaired _ _).1 (horders e he o (by simp [ho]))
    refine ⟨hpaired, fun t ht hd => ?_, fun x hx => (hall x hx).1, fun x hx => (hall x hx).2⟩
    obtain ⟨e, he, htag, hhead⟩ := hheld (by simp [ht]) hd
    obtain ⟨o, ho, hoh⟩ := Option.map_eq_some_iff.1 hhead
    have htag' : e.tag = t := by simpa [ht, eq_comm] using htag
    exact ⟨o.state, mem_ordersFor.2 ⟨e, he, o, ho, hoh, by rw [htag']⟩⟩
  · intro hs
    refine ⟨fun h => ⟨(hs h).paired, fun htag hd => ?_⟩, fun e he o ho => ?_⟩
    · obtain ⟨t, ht⟩ := Option.isSome_iff_exists.1 htag
      obtain ⟨st, hst⟩ := (hs h).held t ht hd
      obtain ⟨e, he, o, ho, hoh, hx⟩ := mem_ordersFor.1 hst
      exact ⟨e, he, by rw [ht, (Prod.mk.inj hx).1], by rw [ho, Option.map_some, hoh]⟩
    · have hx : (e.tag, o.state) ∈ ordersFor o.head s.tru.transit :=
        mem_ordersFor.2 ⟨e, he, o, by simpa using ho, rfl, rfl⟩
      exact (orderStates_iff (hs o.head).paired _ _).2 ⟨(hs o.head).inHand _ hx, (hs o.head).loose _ hx⟩

namespace Hand
variable {c : Channel} {orders : List (Tag × OrderState)}

theorem of_subset {orders' : List (Tag × OrderState)} (h : Hand c orders) (hsub : ∀ x ∈ orders', x ∈ orders)
    (hheld : ∀ x ∈ orders, c.tag = some x.1 → c.detached = false → x ∈ orders') : Hand c orders' := by
  refine ⟨h.paired, fun t ht hd => ?_, fun x hx => h.inHand x (hsub x hx), fun x hx => h.loose x (hsub x hx)⟩
  obtain ⟨st, hst⟩ := h.held t ht hd
  exact ⟨st, hheld _ hst ht hd⟩

/-- An order that is not in hand is loose. -/
theorem loose_of_not_inHand (h : Hand c orders) {x : Tag × OrderState} (hx : x ∈ orders) (ht : c.tag ≠ some x.1) :
    x.2.loose := h.loose x hx fun he => absurd he ht

/-- An order in one of the states of a hand is in its channel's hand, with the channel in the same state. -/
theorem of_not_loose (h : Hand c orders) {x : Tag × OrderState} (hx : x ∈ orders) (hst : ¬x.2.loose) :
    c.tag = some x.1 ∧ c.detached = false ∧ c.handState = some x.2 := by
  by_cases ht : c.tag = some x.1
  · cases hd : c.detached
    · exact ⟨ht, rfl, h.inHand x hx ht hd⟩
    · exact absurd (h.loose x hx fun _ => hd) hst
  · exact absurd (h.loose_of_not_inHand hx ht) hst

/-- A channel that holds no tag pairs with loose orders. -/
theorem release {st : ChannelState} (hst : st = .idle ∨ st = .fault) (c : Channel) (h : ∀ x ∈ orders, x.2.loose) :
    Hand (c.release st) orders := by
  refine ⟨?_, nofun, nofun, fun x hx _ => h x hx⟩
  obtain rfl | rfl := hst <;> simp [Channel.paired, Channel.release]

/-- A channel in IDLE or FAULT leaves every order loose. -/
theorem all_loose (h : Hand c orders) (hst : c.state = .idle ∨ c.state = .fault) : ∀ x ∈ orders, x.2.loose := by
  intro x hx
  refine h.loose_of_not_inHand hx fun ht => ?_
  have := h.paired.handState_of_tag ht
  obtain hst | hst := hst <;> simp [hst] at this

/-- One loose order more, under a tag that no order has. -/
theorem cons_loose {t : Tag} {st : OrderState} (h : Hand c orders) (hst : st.loose) (hnew : ∀ x ∈ orders, x.1 ≠ t) :
    Hand c ((t, st) :: orders) := by
  refine ⟨h.paired, fun t' ht hd => ?_, fun x hx ht hd => ?_, fun x hx hloose => ?_⟩
  · obtain ⟨st', hst'⟩ := h.held t' ht hd
    exact ⟨st', List.mem_cons_of_mem _ hst'⟩
  · obtain rfl | hx := List.mem_cons.1 hx
    · obtain ⟨st', hst'⟩ := h.held t ht hd
      exact absurd rfl (hnew _ hst')
    · exact h.inHand x hx ht hd
  · obtain rfl | hx := List.mem_cons.1 hx
    · exact hst
    · exact h.loose x hx hloose

/-- One loose order less. -/
theorem of_cons_loose {t : Tag} {st : OrderState} (h : Hand c ((t, st) :: orders)) (hst : st.loose) :
    Hand c orders := by
  refine h.of_subset (fun x hx => List.mem_cons_of_mem _ hx) fun x hx ht hd => ?_
  obtain rfl | hx' := List.mem_cons.1 hx
  · have hstate := h.inHand _ hx ht hd
    obtain ⟨h1, h2, h3⟩ := hst
    revert hstate
    unfold Channel.handState
    split <;> simp [h1.symm, h2.symm, h3.symm]
  · exact hx'

end Hand

/-! ### One order put in a state -/

/-- An order of this tag takes this state. -/
def restate (tag : Tag) (st : OrderState) (x : Tag × OrderState) : Tag × OrderState :=
  if x.1 = tag then (x.1, st) else x

theorem restate_same (tag : Tag) (st st' : OrderState) : restate tag st (tag, st') = (tag, st) := if_pos rfl

theorem restate_other {tag : Tag} {x : Tag × OrderState} (st : OrderState) (h : x.1 ≠ tag) : restate tag st x = x :=
  if_neg h

@[simp] theorem restate_fst (tag : Tag) (st : OrderState) (x : Tag × OrderState) : (restate tag st x).1 = x.1 := by
  unfold restate
  split <;> rfl

theorem putOrder_orders (tag : Tag) (st : OrderState) (flags : FlagSet) (s : State) (h : Fin 4) :
    ordersFor h (putOrder tag st flags s).tru.transit = (ordersFor h s.tru.transit).map (restate tag st) := by
  simp only [putOrder_tru, Tru.changeOrder, ordersFor, List.filterMap_map, List.map_filterMap]
  refine List.filterMap_congr fun e _ => ?_
  simp only [Function.comp_apply]
  cases hstamp : e.stamp with
  | none => simp [hstamp]
  | some o =>
    by_cases htag : e.tag = tag <;> by_cases hhead : o.head = h <;> simp [htag, hhead, hstamp, restate]

theorem restate_all_loose {tag : Tag} {st : OrderState} {c : Channel} {orders : List (Tag × OrderState)}
    (h : Hand c orders) (hst : st.loose) (htag : c.tag = some tag) : ∀ x ∈ orders.map (restate tag st), x.2.loose := by
  intro x hx
  obtain ⟨y, hy, rfl⟩ := List.mem_map.1 hx
  by_cases ht : y.1 = tag
  · rw [restate, if_pos ht]
    exact hst
  · rw [restate_other st ht]
    exact h.loose_of_not_inHand hy (by rw [htag]; simpa [eq_comm] using ht)

/-- An order changes under a channel that takes it in hand or already holds it: every other order is loose. -/
theorem Hand.take {tag : Tag} {st : OrderState} {c' : Channel} {orders : List (Tag × OrderState)}
    (hloose : ∀ x ∈ orders, x.1 ≠ tag → x.2.loose) (hlisted : ∃ st', (tag, st') ∈ orders) (hpaired : c'.paired)
    (htag : c'.tag = some tag) (hdetached : c'.detached = false) (hstate : c'.handState = some st) :
    Hand c' (orders.map (restate tag st)) := by
  refine ⟨hpaired, fun t ht _ => ?_, fun x hx ht _ => ?_, fun x hx hl => ?_⟩
  · obtain ⟨st', hst'⟩ := hlisted
    rw [← Option.some.inj (htag.symm.trans ht)]
    exact ⟨st, List.mem_map.2 ⟨_, hst', restate_same _ _ _⟩⟩
  all_goals obtain ⟨y, hy, rfl⟩ := List.mem_map.1 hx
  · rw [restate_fst] at ht
    rw [restate, if_pos (Option.some.inj (htag.symm.trans ht)).symm]
    exact hstate
  · by_cases ht : y.1 = tag
    · rw [restate_fst, htag, ht, hdetached] at hl
      exact absurd (hl rfl) nofun
    · rw [restate_other st ht]
      exact hloose y hy ht

/-! ### The operations of the Stamp Controller on paired channels -/

/-- No tag is named twice in the list. -/
def TagsOnce (l : List Entry) : Prop := (l.map (fun e => e.tag)).Nodup

/-- The channels pair with the orders, and no tag is named twice. -/
structure State.paired (s : State) : Prop where
  once : TagsOnce s.tru.transit
  hands : Paired s.stc s.tru.transit

/-- An order is owed to one head. -/
theorem TagsOnce.other_head {l : List Entry} (hl : TagsOnce l) {h i : Fin 4} (hi : i ≠ h) {tag : Tag}
    (hlisted : ∃ st, (tag, st) ∈ ordersFor h l) : ∀ x ∈ ordersFor i l, x.1 ≠ tag := by
  rintro x hx rfl
  obtain ⟨st, hst⟩ := hlisted
  obtain ⟨e, he, o, ho, rfl, hx'⟩ := mem_ordersFor.1 hst
  obtain ⟨e', he', o', ho', rfl, rfl⟩ := mem_ordersFor.1 hx
  obtain rfl := List.inj_on_of_nodup_map hl he he' (Prod.mk.inj hx').1
  rw [ho] at ho'
  exact hi (by rw [Option.some.inj ho'])

theorem SameStock.once {s t : State} (h : SameStock s t) (hs : TagsOnce s.tru.transit) : TagsOnce t.tru.transit := by
  unfold TagsOnce
  rw [h.tags]
  exact hs

namespace State.paired
variable {s : State}

/-- One channel replaced by one that pairs with its head's orders, the others being paired. -/
theorem of_channel (honce : TagsOnce s.tru.transit) {h : Fin 4} {c : Channel}
    (hothers : ∀ i, i ≠ h → Hand (s.stc.get i) (ordersFor i s.tru.transit))
    (hc : Hand c (ordersFor h s.tru.transit)) : (setChannel h c s).paired := by
  refine ⟨honce, fun i => ?_⟩
  rw [setChannel_stc, setChannel_tru]
  by_cases hi : i = h
  · rwa [hi, Quad.get_set_same]
  · rw [Quad.get_set_other _ _ hi]
    exact hothers i hi

theorem withChannel (hs : s.paired) {h : Fin 4} {c : Channel} (hc : Hand c (ordersFor h s.tru.transit)) :
    (setChannel h c s).paired := of_channel hs.once (fun i _ => hs.hands i) hc

/-- One order put in a state and its head's channel replaced by one that pairs with that. -/
theorem withOrder (hs : s.paired) {h : Fin 4} {c : Channel} {tag : Tag} {st : OrderState} (flags : FlagSet)
    (hlisted : ∃ st', (tag, st') ∈ ordersFor h s.tru.transit)
    (hc : Hand c ((ordersFor h s.tru.transit).map (restate tag st))) :
    (setChannel h c (putOrder tag st flags s)).paired := by
  refine ⟨(putOrder_stock tag st flags s).once hs.once, fun i => ?_⟩
  rw [setChannel_stc, setChannel_tru, putOrder_stc, putOrder_orders]
  by_cases hi : i = h
  · rwa [hi, Quad.get_set_same]
  · have hother : (ordersFor i s.tru.transit).map (restate tag st) = ordersFor i s.tru.transit :=
      (List.map_congr_left (fun x hx => restate_other st (hs.once.other_head hi hlisted x hx))).trans
        (List.map_id _)
    rw [Quad.get_set_other _ _ hi, hother]
    exact hs.hands i

/-- Every order but the one in hand is loose. -/
theorem others_loose (hs : s.paired) {h : Fin 4} {tag : Tag} (htag : (s.stc.get h).tag = some tag) :
    ∀ x ∈ ordersFor h s.tru.transit, x.1 ≠ tag → x.2.loose := fun x hx hne =>
  (hs.hands h).loose_of_not_inHand hx (by rw [htag]; simpa [eq_comm] using hne)

theorem of_same {t : State} (hs : s.paired) (hstc : t.stc = s.stc) (htransit : t.tru.transit = s.tru.transit) :
    t.paired := ⟨by rw [htransit]; exact hs.once, by rw [hstc, htransit]; exact hs.hands⟩

/-- Send ARM for a WAITING order of a head whose channel holds none (R110). -/
theorem armOrder (hs : s.paired) {h : Fin 4} {tag : Tag} (o : Order) (hidle : (s.stc.get h).state = .idle)
    (hlisted : ∃ st, (tag, st) ∈ ordersFor h s.tru.transit) : (armOrder h tag o s).paired :=
  hs.withOrder 0#16 hlisted (Hand.take (fun x hx _ => (hs.hands h).all_loose (.inl hidle) x hx)
    hlisted (by simp [Channel.paired]) rfl rfl rfl)

/-- Send FIRE for the ARMED order in hand (R112). -/
theorem fireOrder (hs : s.paired) {h : Fin 4} {tag : Tag} (harmed : (s.stc.get h).state = .armed)
    (htag : (s.stc.get h).tag = some tag) : (fireOrder h tag s).paired := by
  have hd : (s.stc.get h).detached = false := by
    refine Bool.eq_false_iff.2 fun hd => ?_
    rw [(hs.hands h).paired.2.2.2 hd] at harmed
    exact absurd harmed nofun
  exact hs.withOrder 0#16 ((hs.hands h).held tag htag hd)
    (Hand.take (hs.others_loose htag) ((hs.hands h).held tag htag hd)
      (by simp [Channel.paired, Channel.send, htag]) htag hd rfl)

end State.paired

theorem mem_waitingOrders {h : Fin 4} {l : List Entry} {x : Tag × Order} (hx : x ∈ waitingOrders h l) :
    (x.1, OrderState.waiting) ∈ ordersFor h l := by
  obtain ⟨e, he, hx⟩ := List.mem_filterMap.1 hx
  unfold Entry.orderFor at hx
  split at hx
  · exact absurd hx nofun
  · rename_i o ho
    split at hx
    · rename_i hmeets
      obtain ⟨hhead, hstate⟩ := hmeets
      refine mem_ordersFor.2 ⟨e, he, o, ho, hhead, ?_⟩
      rw [← Option.some.inj hx, hstate]
    · exact absurd hx nofun

theorem earliest_mem {l : List (Tag × Order)} {x : Tag × Order} (h : earliest l = some x) : x ∈ l := by
  induction l generalizing x with
  | nil => exact absurd h nofun
  | cons y l ih =>
    unfold earliest at h
    split at h
    · rw [← Option.some.inj h]
      exact List.mem_cons_self
    · rename_i z hz
      split at h
      · rw [← Option.some.inj h]
        exact List.mem_cons_of_mem _ (ih hz)
      · rw [← Option.some.inj h]
        exact List.mem_cons_self

theorem orderInHand_tag {h : Fin 4} {s : State} {t : Tag} {o : Order} (ho : orderInHand h s = some (t, o)) :
    (s.stc.get h).tag = some t := by
  unfold orderInHand at ho
  split at ho
  · exact absurd ho nofun
  · rename_i t' ht
    split at ho
    · exact absurd ho nofun
    · split at ho
      · exact absurd ho nofun
      · split at ho
        · rw [ht, (Prod.mk.inj (Option.some.inj ho)).1]
        · exact absurd ho nofun

theorem Quad.set_set {α : Type} (q : Quad α) (i : Fin 4) (a b : α) : (q.set i a).set i b = q.set i b := by
  match i with
  | 0 | 1 | 2 | 3 => rfl

/-- ARM sent for one order is the same after the order in hand is released: the channel is written whole. -/
theorem armOrder_after_release (h : Fin 4) (tag : Tag) (o : Order) (st : ChannelState) (s : State) :
    armOrder h tag o (setChannel h ((s.stc.get h).release st) s) = armOrder h tag o s := by
  unfold armOrder
  simp only [setChannel, putOrder, Quad.get_set_same, Quad.set_set]
  rfl

theorem State.paired.armingCheck {s : State} (hs : s.paired) (h : Fin 4) : (armingCheck h s).paired := by
  unfold Machine.armingCheck
  split
  · rename_i hidle
    split
    · exact hs
    · rename_i t o he
      exact hs.armOrder o hidle ⟨_, mem_waitingOrders (earliest_mem he)⟩
  · rename_i harmed
    split
    · rename_i t o t' o' he ho
      split
      · have htag := orderInHand_tag ho
        have hlisted := mem_waitingOrders (earliest_mem he)
        have hd : (s.stc.get h).detached = false := by
          refine Bool.eq_false_iff.2 fun hd => ?_
          rw [(hs.hands h).paired.2.2.2 hd] at harmed
          exact absurd harmed nofun
        have hreleased := hs.withOrder (st := .waiting) 0#16 ((hs.hands h).held t' htag hd)
          (Hand.release (.inl rfl) (s.stc.get h) (restate_all_loose (hs.hands h) (by simp [OrderState.loose]) htag))
        rw [← armOrder_after_release h t o .idle]
        refine hreleased.armOrder o (by simp [Channel.release]) ⟨.waiting, ?_⟩
        rw [setChannel_tru, putOrder_orders]
        refine List.mem_map.2 ⟨_, hlisted, ?_⟩
        unfold restate
        split <;> rfl
      · exact hs
    · exact hs
  all_goals exact hs

/-! ### Misses and advances (R112, R118) -/

theorem Quad.set_get {α : Type} (q : Quad α) (i : Fin 4) : q.set i (q.get i) = q := by
  match i with
  | 0 | 1 | 2 | 3 => rfl

/-- An order out of hand becomes loose. -/
theorem Hand.restate_loose {c : Channel} {orders : List (Tag × OrderState)} {tag : Tag} {st : OrderState}
    (h : Hand c orders) (hst : st.loose) (hout : c.tag = some tag → c.detached = true) :
    Hand c (orders.map (restate tag st)) := by
  refine ⟨h.paired, fun t ht hd => ?_, fun x hx ht hd => ?_, fun x hx hl => ?_⟩
  · obtain ⟨st', hst'⟩ := h.held t ht hd
    refine ⟨st', List.mem_map.2 ⟨_, hst', restate_other st fun he => ?_⟩⟩
    rw [hout (by rw [ht]; exact congrArg some he)] at hd
    exact absurd hd nofun
  all_goals
    obtain ⟨y, hy, rfl⟩ := List.mem_map.1 hx
    rw [restate_fst] at *
    by_cases hy' : y.1 = tag
  · rw [hout (by rw [ht, hy'])] at hd
    exact absurd hd nofun
  · rw [restate_other st hy']
    exact h.inHand y hy ht hd
  · rw [restate, if_pos hy']
    exact hst
  · rw [restate_other st hy']
    exact h.loose y hy hl

/-- An order in hand that is not printing is taken from its channel, which becomes IDLE; any other leaves the channel as
it is (R118, R120). -/
theorem takeFromHand_cases (tag : Tag) (o : Order) (s : State) :
    (((s.stc.get o.head).state = .arming ∨ (s.stc.get o.head).state = .armed) ∧ (s.stc.get o.head).tag = some tag
      ∧ takeFromHand tag o s = setChannel o.head ((s.stc.get o.head).release .idle) s)
    ∨ (((s.stc.get o.head).state = .arming ∨ (s.stc.get o.head).state = .armed) → (s.stc.get o.head).tag ≠ some tag)
      ∧ takeFromHand tag o s = s := by
  unfold takeFromHand
  simp only
  split
  · rename_i h
    exact .inl ⟨h.1, h.2, rfl⟩
  · rename_i h
    exact .inr ⟨fun hst ht => h ⟨hst, ht⟩, rfl⟩

theorem missed_loose (r : MissReason) : (OrderState.missed r).loose := by simp [OrderState.loose]

/-- An order that is not printing is missed, and its channel freed when it was in hand (R118). -/
theorem State.paired.missOrder {s : State} (hs : s.paired) {tag : Tag} (lane : Fin 4) {o : Order} {st : OrderState}
    (hlisted : (tag, st) ∈ ordersFor o.head s.tru.transit) (hst : st ≠ .firing) : (missOrder tag lane o s).paired := by
  unfold Machine.missOrder
  obtain ⟨-, htag, he⟩ | ⟨hout, he⟩ := takeFromHand_cases tag o (submit (missRecord tag lane o (missReason o.head s)
    s.tcu.hwm) (putOrder tag (.missed (missReason o.head s)) Flag.missed.only s)) <;> simp only [he]
  · exact (hs.withOrder (st := .missed (missReason o.head s)) Flag.missed.only ⟨st, hlisted⟩
      (Hand.release (.inl rfl) (s.stc.get o.head)
        (restate_all_loose (hs.hands o.head) (missed_loose _) htag))).of_same rfl rfl
  · have hdetached : (s.stc.get o.head).tag = some tag → (s.stc.get o.head).detached = true := by
      intro ht
      by_contra hd
      have hstate := (hs.hands o.head).inHand _ hlisted ht (by simpa using hd)
      simp only [submit_stc, putOrder_stc, ht] at hout
      revert hstate hout
      unfold Channel.handState
      cases (s.stc.get o.head).state <;> simp [hst.symm]
    have hmissed := hs.withOrder (st := .missed (missReason o.head s)) Flag.missed.only ⟨st, hlisted⟩
      ((hs.hands o.head).restate_loose (missed_loose _) hdetached)
    exact hmissed.of_same (by simp [Quad.set_get]) rfl

theorem mem_missesDue {h : Fin 4} {s : State} {x : Tag × Fin 4 × Order} (hx : x ∈ missesDue h s) :
    x.2.2.head = h ∧ (x.1, x.2.2.state) ∈ ordersFor h s.tru.transit ∧ x.2.2.state ≠ .firing := by
  rw [missesDue, mem_sortBy] at hx
  obtain ⟨e, he, hx⟩ := List.mem_filterMap.1 hx
  split at hx
  · exact absurd hx nofun
  · rename_i o ho
    split at hx
    · rename_i hdue
      obtain ⟨hhead, hdue⟩ := hdue
      rw [← Option.some.inj hx]
      refine ⟨hhead, mem_ordersFor.2 ⟨e, he, o, ho, hhead, rfl⟩, fun hfiring => ?_⟩
      have hfiring : o.state = .firing := hfiring
      simp [Order.missDue, hfiring] at hdue
    · exact absurd hx nofun

theorem missOrder_orders (tag : Tag) (lane : Fin 4) (o : Order) (s : State) (h : Fin 4) :
    ordersFor h (missOrder tag lane o s).tru.transit
      = (ordersFor h s.tru.transit).map (restate tag (.missed (missReason o.head s))) := by
  rw [← putOrder_orders tag _ Flag.missed.only s h]
  unfold missOrder takeFromHand
  simp only
  split <;> rfl

/-- Orders of a head missed one after another (R118). -/
theorem State.paired.missOrders {h : Fin 4} {l : List (Tag × Fin 4 × Order)} {s : State} (hs : s.paired)
    (hl : ∀ x ∈ l, x.2.2.head = h ∧ ∃ st, (x.1, st) ∈ ordersFor h s.tru.transit ∧ st ≠ .firing) :
    (l.foldl (fun s x => Machine.missOrder x.1 x.2.1 x.2.2 s) s).paired := by
  induction l generalizing s with
  | nil => exact hs
  | cons y l ih =>
    obtain ⟨hhead, st, hlisted, hst⟩ := hl y List.mem_cons_self
    refine ih (hs.missOrder y.2.1 (by rw [hhead]; exact hlisted) hst) fun x hx => ?_
    obtain ⟨hxh, stx, hxl, hxs⟩ := hl x (List.mem_cons_of_mem _ hx)
    rw [missOrder_orders]
    refine ⟨hxh, (restate y.1 (.missed (missReason y.2.2.head s)) (x.1, stx)).2, ?_, ?_⟩
    · refine List.mem_map.2 ⟨_, hxl, ?_⟩
      exact Prod.ext (restate_fst _ _ _) rfl
    · unfold restate
      split
      · nofun
      · exact hxs

theorem State.paired.fireIfDue {s : State} (hs : s.paired) (h : Fin 4) : (fireIfDue h s).paired := by
  unfold Machine.fireIfDue fireDue
  split
  · exact hs
  · rename_i t ht
    split at ht
    · rename_i harmed
      split at ht
      · exact absurd ht nofun
      · rename_i t' o ho
        split at ht
        · rw [← Option.some.inj ht]
          exact hs.fireOrder harmed (orderInHand_tag ho)
        · exact absurd ht nofun
    · exact absurd ht nofun

theorem State.paired.stampAdvance {s : State} (hs : s.paired) (h : Fin 4) : (stampAdvance h s).paired := by
  have hfired := hs.fireIfDue h
  unfold Machine.stampAdvance
  simp only
  split
  · exact hfired
  · refine (hfired.missOrders (h := h) fun x hx => ?_).armingCheck h
    obtain ⟨hhead, hlisted, hst⟩ := mem_missesDue hx
    exact ⟨hhead, _, hlisted, hst⟩

/-! ### Frames from a head, and its faults (R109 to R117) -/

theorem State.paired.released {s : State} (hs : s.paired) {h : Fin 4} {tag : Tag} {st : OrderState}
    {cst : ChannelState} (hcst : cst = .idle ∨ cst = .fault) (flags : FlagSet) (hst : st.loose)
    (htag : (s.stc.get h).tag = some tag) (hd : (s.stc.get h).detached = false) :
    (setChannel h ((s.stc.get h).release cst) (putOrder tag st flags s)).paired :=
  hs.withOrder flags ((hs.hands h).held tag htag hd)
    (Hand.release hcst (s.stc.get h) (restate_all_loose (hs.hands h) hst htag))

/-- A channel that detached its order leaves every order loose. -/
theorem Hand.all_loose_of_detached {c : Channel} {orders : List (Tag × OrderState)} (h : Hand c orders)
    (hd : c.detached = true) : ∀ x ∈ orders, x.2.loose := fun x hx => h.loose x hx fun _ => hd

theorem not_detached_of {c : Channel} (hc : c.paired) (hst : c.state ≠ .printing) : c.detached = false :=
  Bool.eq_false_iff.2 fun hd => hst (hc.2.2.2 hd)

theorem State.paired.acceptReady {s : State} (hs : s.paired) (h : Fin 4) (tag : Tag) :
    (acceptReady h tag s).paired := by
  unfold Machine.acceptReady
  simp only
  split
  · rename_i hready
    obtain ⟨hstate, htag⟩ := hready
    have hd := not_detached_of (hs.hands h).paired (by rw [hstate]; nofun)
    have hlisted := (hs.hands h).held tag htag hd
    have harmed := hs.withOrder (c := { s.stc.get h with state := .armed, armTimer := false }) (st := .armed) 0#16
      hlisted (Hand.take (hs.others_loose htag) hlisted
        (by simpa [Channel.paired, htag, hd, hstate] using (hs.hands h).paired.2.1) htag hd rfl)
    split
    · exact harmed
    · rename_i t o ho
      split
      · exact harmed.fireOrder (by simp) (orderInHand_tag ho)
      · exact harmed.armingCheck h
  · exact hs

theorem State.paired.acceptDone {s : State} (hs : s.paired) (h : Fin 4) (tag : Tag) :
    (acceptDone h tag s).paired := by
  unfold Machine.acceptDone
  simp only
  split
  · rename_i hdone
    refine State.paired.armingCheck ?_ h
    split
    · rename_i hd
      exact hs.withChannel (Hand.release (.inl rfl) _ ((hs.hands h).all_loose_of_detached hd))
    · rename_i hd
      exact (hs.released (.inl rfl) 0#16 (st := .done) (by simp [OrderState.loose]) hdone.2
        (by simpa using hd)).of_same rfl rfl
  · exact hs

theorem State.paired.headFault {s : State} (hs : s.paired) (h : Fin 4) (cause : HeadCause) :
    (headFault h cause s).paired := by
  have hpaired := (hs.hands h).paired
  have hsettled : (setChannel h ((s.stc.get h).release .fault) (match faultEffect (s.stc.get h) with
      | .returned => putOrder ((s.stc.get h).tag.getD 0#16) .waiting 0#16 s
      | .failed => putOrder ((s.stc.get h).tag.getD 0#16) .failed Flag.missed.only s
      | .detached | .none => s)).paired := by
    have htagged (hst : (s.stc.get h).state = .arming ∨ (s.stc.get h).state = .armed
        ∨ (s.stc.get h).state = .printing) : (s.stc.get h).tag = some ((s.stc.get h).tag.getD 0#16) := by
      have hsome := hpaired.2.2.1
      revert hsome
      obtain hst | hst | hst := hst <;> cases (s.stc.get h).tag <;> simp [hst]
    unfold faultEffect
    cases hst : (s.stc.get h).state
    · exact hs.withChannel (Hand.release (.inr rfl) _ ((hs.hands h).all_loose (.inl hst)))
    · exact hs.released (.inr rfl) 0#16 (by simp [OrderState.loose]) (htagged (.inl hst))
        (not_detached_of hpaired (by rw [hst]; nofun))
    · exact hs.released (.inr rfl) 0#16 (by simp [OrderState.loose]) (htagged (.inr (.inl hst)))
        (not_detached_of hpaired (by rw [hst]; nofun))
    · cases hd : (s.stc.get h).detached
      · exact hs.released (.inr rfl) _ (by simp [OrderState.loose]) (htagged (.inr (.inr hst))) hd
      · exact hs.withChannel (Hand.release (.inr rfl) _ ((hs.hands h).all_loose_of_detached hd))
    · exact hs.withChannel (Hand.release (.inr rfl) _ ((hs.hands h).all_loose (.inr hst)))
  exact hsettled.of_same rfl rfl

end Sys2Proof.Machine

/-! The pairing of head channels through drops, insertions and the hand-on of hides (R120, R129). -/

namespace Sys2Proof.Machine

/-! ### Settlement at drop (R120) -/

/-- An order that is settled already stands (R120). -/
theorem settle_stands {e : Entry} {o : Order} (he : e.stamp = some o)
    (hst : o.state = .done ∨ (∃ r, o.state = .missed r) ∨ o.state = .failed) (s : State) : (settle e s).2.2 = s := by
  obtain hst | ⟨r, hst⟩ | hst := hst <;> simp [settle, he, hst]

/-- A print under way is detached from its entry (R120). -/
theorem settle_firing {e : Entry} {o : Order} (he : e.stamp = some o) (hst : o.state = .firing) (s : State) :
    settle e s = (.fired, e.flags, setChannel o.head { s.stc.get o.head with detached := true } s) := by
  simp [settle, he, hst]

/-- An order not yet printing is missed (R120). -/
theorem settle_misses {e : Entry} {o : Order} (he : e.stamp = some o)
    (hst : o.state = .waiting ∨ o.state = .arming ∨ o.state = .armed) (s : State) :
    settle e s = (.missed, addFlag e.flags .missed, armingCheck o.head (takeFromHand e.tag o
      (submit (missRecord e.tag e.lane o (missReason o.head s) s.tcu.hwm) s))) := by
  obtain hst | hst | hst := hst <;> simp [settle, he, hst]

theorem ordersFor_cons (h : Fin 4) (e : Entry) (l : List Entry) :
    ordersFor h (e :: l) =
      (e.stamp.bind (fun o => if o.head = h then some (e.tag, o.state) else none)).toList ++ ordersFor h l := by
  unfold ordersFor
  rw [List.filterMap_cons]
  cases e.stamp.bind (fun o => if o.head = h then some (e.tag, o.state) else none) <;> rfl

theorem ordersFor_cons_none {e : Entry} (he : e.stamp = none) (h : Fin 4) (l : List Entry) :
    ordersFor h (e :: l) = ordersFor h l := by
  rw [ordersFor_cons, he]
  rfl

theorem ordersFor_cons_same {e : Entry} {o : Order} (he : e.stamp = some o) (l : List Entry) :
    ordersFor o.head (e :: l) = (e.tag, o.state) :: ordersFor o.head l := by
  rw [ordersFor_cons, he, Option.bind_some, if_pos rfl]
  rfl

theorem ordersFor_cons_other {e : Entry} {o : Order} (he : e.stamp = some o) {h : Fin 4} (hh : h ≠ o.head)
    (l : List Entry) : ordersFor h (e :: l) = ordersFor h l := by
  rw [ordersFor_cons, he, Option.bind_some, if_neg fun hhead => hh hhead.symm]
  rfl

/-- The channels pair with the orders of the list and of an entry that has left it, and no tag is named twice. -/
structure State.pairedWith (e : Entry) (s : State) : Prop where
  once : TagsOnce (e :: s.tru.transit)
  hands : Paired s.stc (e :: s.tru.transit)

namespace State.pairedWith
variable {e : Entry} {s : State}

theorem listOnce (hs : s.pairedWith e) : TagsOnce s.tru.transit := (List.nodup_cons.1 hs.once).2

/-- The other orders have other tags. -/
theorem other_tags (hs : s.pairedWith e) (h : Fin 4) : ∀ x ∈ ordersFor h s.tru.transit, x.1 ≠ e.tag := by
  rintro x hx he
  have := mem_tags_of_mem_ordersFor hx
  rw [he] at this
  exact (List.nodup_cons.1 hs.once).1 this

/-- The channels of the other heads pair without the entry. -/
theorem others (hs : s.pairedWith e) {o : Order} (he : e.stamp = some o) (h : Fin 4) (hh : h ≠ o.head) :
    Hand (s.stc.get h) (ordersFor h s.tru.transit) := by
  rw [← ordersFor_cons_other he hh]
  exact hs.hands h

/-- The channel of the entry's head pairs with its order and the others. -/
theorem own (hs : s.pairedWith e) {o : Order} (he : e.stamp = some o) :
    Hand (s.stc.get o.head) ((e.tag, o.state) :: ordersFor o.head s.tru.transit) := by
  rw [← ordersFor_cons_same he]
  exact hs.hands o.head

theorem paired_of_none (hs : s.pairedWith e) (he : e.stamp = none) : s.paired :=
  ⟨hs.listOnce, fun h => by
    rw [← ordersFor_cons_none he]
    exact hs.hands h⟩

theorem paired_of_loose (hs : s.pairedWith e) {o : Order} (he : e.stamp = some o) (ho : o.state.loose) : s.paired := by
  refine ⟨hs.listOnce, fun h => ?_⟩
  by_cases hh : h = o.head
  · rw [hh]
    exact (hs.own he).of_cons_loose ho
  · exact hs.others he h hh

/-- The order of the entry is in its channel's hand, which is given another channel that pairs with the others. -/
theorem withChannel (hs : s.pairedWith e) {o : Order} (he : e.stamp = some o) {c : Channel}
    (hc : Hand c (ordersFor o.head s.tru.transit)) : (setChannel o.head c s).paired :=
  State.paired.of_channel hs.listOnce (fun i hi => hs.others he i hi) hc

/-- With the entry's order in hand every other order of its head is loose. -/
theorem rest_loose (hs : s.pairedWith e) {o : Order} (he : e.stamp = some o)
    (htag : (s.stc.get o.head).tag = some e.tag) : ∀ x ∈ ordersFor o.head s.tru.transit, x.2.loose := fun x hx =>
  (hs.own he).loose_of_not_inHand (List.mem_cons_of_mem _ hx) (by
    rw [htag]
    exact fun heq => hs.other_tags o.head x hx (Option.some.inj heq).symm)

/-- An order that is not printing is taken from its channel's hand, when it is there (R120). -/
theorem takeFromHand (hs : s.pairedWith e) {o : Order} (he : e.stamp = some o) (hst : o.state ≠ .firing) :
    (takeFromHand e.tag o s).paired := by
  obtain ⟨-, htag, ht⟩ | ⟨hout, ht⟩ := takeFromHand_cases e.tag o s <;> rw [ht]
  · exact hs.withChannel he (Hand.release (.inl rfl) _ (hs.rest_loose he htag))
  · refine hs.paired_of_loose he ?_
    by_contra hloose
    obtain ⟨htag, -, hstate⟩ := (hs.own he).of_not_loose List.mem_cons_self hloose
    revert hstate hout
    unfold Channel.handState
    cases (s.stc.get o.head).state <;> simp [htag, hst.symm]

theorem settle (hs : s.pairedWith e) : (settle e s).2.2.paired := by
  cases he : e.stamp with
  | none =>
    have hsame : (Machine.settle e s).2.2 = s := by simp [Machine.settle, he]
    rw [hsame]
    exact hs.paired_of_none he
  | some o =>
    have htold (r : Record) : (submit r s).pairedWith e := ⟨hs.once, hs.hands⟩
    cases hst : o.state with
    | done | missed _ | failed =>
      rw [settle_stands he (by simp [hst])]
      exact hs.paired_of_loose he (by simp [OrderState.loose, hst])
    | firing =>
      obtain ⟨htag, -, hstate⟩ := (hs.own he).of_not_loose List.mem_cons_self (by simp [OrderState.loose, hst])
      have hprinting : (s.stc.get o.head).state = .printing := by
        rw [hst] at hstate
        revert hstate
        unfold Channel.handState
        cases (s.stc.get o.head).state <;> simp
      obtain ⟨harm, hprint, hsome, -⟩ := (hs.own he).paired
      rw [settle_firing he hst]
      exact hs.withChannel he ⟨⟨harm, hprint, hsome, fun _ => hprinting⟩, fun _ _ hd => Bool.noConfusion hd,
        fun _ _ _ hd => Bool.noConfusion hd, fun x hx _ => hs.rest_loose he htag x hx⟩
    | waiting | arming | armed =>
      rw [settle_misses he (by simp [hst])]
      exact ((htold _).takeFromHand he (by rw [hst]; nofun)).armingCheck o.head

end State.pairedWith

/-! ### What the tally leaves alone -/

@[simp] theorem closePack_stc (lane : Fin 4) (cause : CloseCause) (s : State) :
    (closePack lane cause s).stc = s.stc := by
  obtain ⟨-, h⟩ | ⟨-, h⟩ := closePack_cases lane cause s <;> rw [h] <;> rfl

@[simp] theorem targetCheck_stc (lane : Fin 4) (s : State) : (targetCheck lane s).stc = s.stc := by
  obtain ⟨-, -, h⟩ | h := targetCheck_cases lane s
  · rw [h, closePack_stc]
  · rw [h]

@[simp] theorem tallyPack_stc (lane : Fin 4) (figure area : Nat) (s : State) :
    (tallyPack lane figure area s).stc = s.stc := targetCheck_stc _ _

@[simp] theorem closeLot_stc (slot : Fin 4) (s : State) : (closeLot slot s).stc = s.stc := by
  obtain ⟨-, h⟩ | ⟨-, h⟩ := closeLot_cases slot s
  · rw [h]
    rfl
  · rw [h]

@[simp] theorem lowerInFlight_stc (slot : Fin 4) (s : State) : (lowerInFlight slot s).stc = s.stc := by
  simp only [lowerInFlight]
  split
  · rw [closeLot_stc, setLot_stc]
  · rfl

@[simp] theorem releaseLots_stc (lots : Quad Bool) (s : State) : (releaseLots lots s).stc = s.stc := by
  unfold releaseLots
  generalize fours.filter (fun i => lots.get i) = l
  induction l generalizing s with
  | nil => rfl
  | cons i l ih => exact (ih _).trans (lowerInFlight_stc i s)

@[simp] theorem tallyFate_stc (fate : Fate) (e : Entry) (flags : FlagSet) (s : State) :
    (tallyFate fate e flags s).stc = s.stc := by
  cases fate with
  | pack => exact tallyPack_stc _ _ _ _
  | scrap =>
    simp only [tallyFate]
    split <;> rfl
  | divert | none => rfl

theorem occurrence_stc (k : OneShotKind) (r : Record) (s : State) : (occurrence k r s).stc = s.stc := by
  obtain ⟨-, h⟩ | ⟨-, h⟩ := occurrence_cases k r s <;> rw [h]

theorem occurrence_tru (k : OneShotKind) (r : Record) (s : State) : (occurrence k r s).tru = s.tru := by
  obtain ⟨-, h⟩ | ⟨-, h⟩ := occurrence_cases k r s <;> rw [h]

/-- After the settlement a drop leaves the channels and the list alone. -/
theorem dropEntry_stc (e : Entry) (s : State) : (dropEntry e s).stc = (settle e s).2.2.stc := by
  rw [dropEntry_eq]
  simp only [submit_stc]
  split <;> simp [pulseGate]

theorem dropEntry_transit (e : Entry) (s : State) : (dropEntry e s).tru.transit = (settle e s).2.2.tru.transit := by
  rw [dropEntry_eq]
  simp only [submit_tru]
  split <;> simp [pulseGate]

theorem State.pairedWith.dropEntry {e : Entry} {s : State} (hs : s.pairedWith e) : (dropEntry e s).paired :=
  hs.settle.of_same (dropEntry_stc e s) (dropEntry_transit e s)

theorem State.paired.dropReached (n : Nat) {s : State} (hs : s.paired) : (dropReached n s).paired := by
  induction n generalizing s with
  | zero => exact hs
  | succ n ih =>
    unfold Machine.dropReached
    split
    · exact hs
    · rename_i e rest he
      have hwith : State.pairedWith e { s with tru := { s.tru with transit := rest } } :=
        ⟨by have := hs.once; rwa [he] at this, by have := hs.hands; rwa [he] at this⟩
      split
      · exact ih hwith.dropEntry
      · exact hs

/-! ### Insertions (R129) -/

/-- The order of a new entry is WAITING or missed from the start (R106). -/
theorem newEntry_loose (m : ClosedHide) (lane : Fin 4) (s : State) {o : Order} (ho : (newEntry m lane s).stamp = some o) :
    o.state.loose := by
  obtain ⟨h, -, rfl⟩ := Option.map_eq_some_iff.1 ho
  simp only [newOrder]
  split <;> simp [OrderState.loose]

/-- An entry under a new tag whose order is in nobody's hand joins the pairing. -/
theorem State.paired.with_entry {s : State} (hs : s.paired) {e : Entry} (hnew : e.tag ∉ s.tru.transit.map (fun e => e.tag))
    (he : ∀ o, e.stamp = some o → o.state.loose) : s.pairedWith e := by
  refine ⟨List.nodup_cons.2 ⟨hnew, hs.once⟩, fun h => ?_⟩
  cases hstamp : e.stamp with
  | none =>
    rw [ordersFor_cons_none hstamp]
    exact hs.hands h
  | some o =>
    by_cases hh : h = o.head
    · rw [hh, ordersFor_cons_same hstamp]
      refine (hs.hands o.head).cons_loose (he o hstamp) fun x hx htag => hnew ?_
      rw [← htag]
      exact mem_tags_of_mem_ordersFor hx
    · rw [ordersFor_cons_other hstamp hh]
      exact hs.hands h

theorem Hand.perm {c : Channel} {a b : List (Tag × OrderState)} (h : Hand c a) (hp : b.Perm a) : Hand c b :=
  h.of_subset (fun _ hx => hp.mem_iff.1 hx) fun _ hx _ _ => hp.mem_iff.2 hx

theorem State.pairedWith.placed {s : State} {e : Entry} (hs : s.pairedWith e) :
    State.paired { s with tru := { s.tru with transit := placeEntry e s.tru.transit } } :=
  ⟨((placeEntry_perm e s.tru.transit).map _).nodup_iff.2 hs.once, fun h =>
    (hs.hands h).perm ((placeEntry_perm e s.tru.transit).filterMap _)⟩

theorem State.paired.checkNewOrder {s : State} (hs : s.paired) (e : Entry) : (checkNewOrder e s).paired := by
  unfold Machine.checkNewOrder
  split
  · exact hs
  · split
    · exact hs.armingCheck _
    · exact hs

theorem State.paired.reportLateClose {s : State} (hs : s.paired) (e : Entry) : (reportLateClose e s).paired := by
  unfold Machine.reportLateClose
  split
  · exact hs
  · split
    · exact hs.of_same rfl rfl
    · exact hs

theorem State.paired.transitTakes {s : State} (hs : s.paired) {m : ClosedHide}
    (hnew : m.tag ∉ s.tru.transit.map (fun e => e.tag)) : (transitTakes m s).paired := by
  unfold Machine.transitTakes
  split
  · exact hs.of_same rfl rfl
  · rename_i lane _
    split
    · exact hs.of_same (occurrence_stc _ _ _) (by rw [submit_tru, occurrence_tru])
    · unfold insertHide
      simp only
      have hlate := (hs.of_same (t := raiseInFlight (newEntry m lane s).lots s) rfl rfl).reportLateClose (newEntry m lane s)
      have hwith := hlate.with_entry (e := newEntry m lane s)
        (by rw [(reportLateClose_stock _ _).tags]; exact hnew) fun o ho => newEntry_loose m lane s ho
      split
      · exact hwith.dropEntry.checkNewOrder _
      · exact hwith.placed.checkNewOrder _

/-! ### Hides handed on -/

/-- Tags are held soundly beside those of some hides that have left the table, and the channels are paired. -/
structure State.coupledWith (s : State) (hides : List Hide) : Prop where
  tagged : s.tagsSoundWith hides
  hands : Paired s.stc s.tru.transit

/-- Tags are held soundly and the channels are paired. -/
def State.coupled (s : State) : Prop := s.coupledWith []

namespace State.coupledWith
variable {s : State} {hides : List Hide}

theorem once (hs : s.coupledWith hides) : TagsOnce s.tru.transit :=
  (((List.sublist_append_right _ _).trans (List.sublist_append_right _ _)).nodup hs.tagged.tags.1)

theorem paired (hs : s.coupledWith hides) : s.paired := ⟨hs.once, hs.hands⟩

theorem new_tag {h : Hide} (hs : s.coupledWith (h :: hides)) : h.tag ∉ s.tru.transit.map (fun e => e.tag) := by
  intro hin
  exact (List.nodup_cons.1 hs.tagged.tags.1).1 (List.mem_append_right _ (List.mem_append_right _ hin))

end State.coupledWith

theorem areaTakes_coupled {h : Hide} {hides : List Hide} {s : State} (hs : s.coupledWith (h :: hides)) :
    (areaTakes h s).coupledWith hides := by
  obtain ⟨-, htru, hstc⟩ := offerHide_stock h.tag (rawArea h.widthSum (pitch s.settings)) h.flags s
  have hoffered : (offerHide h.tag (rawArea h.widthSum (pitch s.settings)) h.flags s).2.paired :=
    hs.paired.of_same hstc (by rw [htru])
  exact ⟨areaTakes_tagged hs.tagged, (hoffered.transitTakes (by rw [htru]; exact hs.new_tag)).hands⟩

theorem handOnAll_coupled (hides : List Hide) {s : State} (hs : s.coupledWith hides) : (handOnAll hides s).coupled := by
  unfold handOnAll
  induction hides generalizing s with
  | nil => exact hs
  | cons h hides ih => exact ih (areaTakes_coupled hs)

/-! ### Every step -/

namespace State.coupled
variable {s t : State}

theorem of_same (hs : s.coupled) (hhtk : t.htk = s.htk) (hstc : t.stc = s.stc)
    (htransit : t.tru.transit = s.tru.transit) : t.coupled :=
  ⟨State.tagged.of_same hs.tagged hhtk htransit, (hs.paired.of_same hstc htransit).hands⟩

theorem of_stock (hs : s.coupled) (h : SameStock s t) (ht : t.paired) : t.coupled := ⟨h.tagsSoundWith hs.tagged, ht.hands⟩

end State.coupled

theorem trackLine_coupled (line pos : Count) (runs : List Run) : KeptAlways State.coupled (trackLine line pos runs) := by
  intro s hs
  unfold trackLine
  split
  · rename_i htracking
    refine handOnAll_coupled _ ⟨(reportTableFull_stock _ _ _).tagsSoundWith ?_, ?_⟩
    · exact lineOutcome_tagged line pos runs hs.tagged
    · have hsame (o : LineOutcome) (u : State) : (reportTableFull line o u).stc = u.stc
          ∧ (reportTableFull line o u).tru = u.tru := by
        unfold reportTableFull
        split
        · exact ⟨rfl, rfl⟩
        · exact ⟨occurrence_stc _ _ _, occurrence_tru _ _ _⟩
      rw [(hsame _ _).1, (hsame _ _).2]
      exact hs.hands
  · exact hs

theorem coupled_travel : KeptByTravel State.coupled where
  pins _ _ hs := hs.of_same rfl rfl rfl
  grid _ _ _ hs := hs.of_same rfl rfl rfl
  cal _ _ hs := hs.of_same rfl rfl rfl
  mdc _ _ hs := hs.of_same rfl rfl rfl
  openChoices _ _ hs := hs.of_same rfl rfl rfl
  slr _ _ _ hs := hs.of_same rfl rfl rfl
  submit _ _ hs := hs.of_same rfl rfl rfl
  line := trackLine_coupled
  monitor line raw s hs := by
    obtain ⟨mask, marked, rpq, h⟩ := stuckMonitor_eq line raw s
    rw [h]
    exact hs.of_same rfl rfl rfl
  tracking s hs := ⟨tagged_travel.tracking s hs.tagged, hs.hands⟩
  closeAll flags s hs := by
    refine handOnAll_coupled _ ⟨⟨hs.tagged.tags.perm ?_, hs.tagged.next, Nat.zero_le _, hs.tagged.transit⟩, hs.hands⟩
    exact (closingHides_tags flags s.htk.table).append_right _
  stamps h s hs := hs.of_stock (stampAdvance_stock h s) (hs.paired.stampAdvance h)
  drops s hs := ⟨tagged_travel.drops s hs.tagged, (hs.paired.dropReached _).hands⟩

theorem coupled_events : KeptByEvents State.coupled :=
  coupled_travel.events
    (ready := fun h tag s hs => hs.of_stock (acceptReady_stock h tag s) (hs.paired.acceptReady h tag))
    (done := fun h tag s hs => hs.of_stock (acceptDone_stock h tag s) (hs.paired.acceptDone h tag))
    (fault := fun h cause s hs => hs.of_stock (headFault_stock h cause s) (hs.paired.headFault h cause))
    (bytes := fun h _ s hs => hs.of_stock (setChannel_stock h _ s) (hs.paired.withChannel
      ⟨(hs.hands h).paired, (hs.hands h).held, (hs.hands h).inHand, (hs.hands h).loose⟩))
    (gate := fun _ _ hs => hs.of_same rfl rfl rfl)
    (change := fun lane s hs => by
      unfold packChangeExpires
      split
      · exact hs.of_same rfl rfl rfl
      · exact hs)

theorem waiterService_stc (s : State) : (waiterService s).stc = s.stc := by
  unfold waiterService
  split <;> rfl

theorem afterWrite_stc (x : Setting) (s : State) : (afterWrite x s).stc = s.stc := by
  cases x with
  | target l => exact targetCheck_stc l s
  | gatePresent l =>
    simp only [afterWrite]
    split <;> rfl
  | _ => rfl

/-- No orders pair with channels as a reset leaves them (R108). -/
theorem paired_reset : Paired (Quad.const Channel.reset) [] := by
  intro h
  rw [Quad.get_const]
  refine ⟨?_, nofun, nofun, nofun⟩
  simp [Channel.paired, Channel.reset]

theorem coupled_requests : KeptByRequests State.coupled where
  set x _ _ _ _ hs _ _ := hs.of_same (afterWrite_upstream x _).htk (afterWrite_stc x _) (afterWrite_transit x _)
  widths _ _ _ hs _ _ _ := hs.of_same rfl rfl rfl
  maskAdd _ _ hs _ _ _ := hs.of_same rfl rfl rfl
  maskDrop _ _ hs := hs.of_same rfl rfl rfl
  start := coupled_travel.serveStart.keptBy
  pause := coupled_travel.servePause.keptBy
  resume := coupled_travel.serveResume.keptBy
  stop := coupled_travel.serveStop.keptBy
  clear := coupled_travel.serveClear.keptBy
  calib aRef := (coupled_travel.serveCalib aRef).keptBy
  fetch _ _ hs := hs.of_same rfl rfl rfl
  rearm _ _ hs := hs.of_same rfl rfl rfl
  ticket _ _ _ hs _ := hs.of_same (waiterService_upstream _).htk (waiterService_stc _) (waiterService_transit _)
  packClose _ _ hs _ := hs.of_same (closePack_upstream _ _ _).htk (closePack_stc _ _ _) (closePack_transit _ _ _)
  target _ _ _ hs _ := hs.of_same (targetCheck_upstream _ _).htk (targetCheck_stc _ _) (targetCheck_transit _ _)
  lotOpen _ _ _ _ hs _ := hs.of_same rfl rfl rfl
  lotClose _ _ hs _ := ⟨hs.of_same rfl rfl rfl, fun _ =>
    hs.of_same (closeLot_upstream _ _).htk (closeLot_stc _ _) (by rw [closeLot_tru]; rfl)⟩
  headClear h s hs hfault := by
    refine hs.of_stock ((setChannel_stock _ _ _).trans (armingCheck_stock _ _)) ?_
    exact (hs.paired.withChannel (Hand.release (.inl rfl) _ ((hs.hands h).all_loose (.inr hfault)))).armingCheck h
  reset s hs := ⟨tagged_requests.reset s hs.tagged, paired_reset⟩

theorem step_coupled {s t : State} (hs : s.coupled) (ht : step s = .next t) : t.coupled :=
  step_kept (P := State.coupled) ⟨fun _ _ hs => hs.of_same rfl rfl rfl, fun _ _ hs => hs.of_same rfl rfl rfl⟩
    coupled_requests coupled_events (coupled_travel.encoder fun _ _ hs => hs.of_same rfl rfl rfl)
    (fun cause strap s _ => ⟨fullReset_tagged cause strap s, paired_reset⟩) hs ht

/-- Settles O59: each operation of the Stamp Controller writes one channel and the order in its hand together, and a
drop settles the order before its entry is gone. -/
theorem stepKeepsChannelsPaired : Obligations.StepKeepsChannelsPaired := fun _ _ hcap htags hs ht =>
  channelsPaired_iff.2 (step_coupled ⟨tagged_of hcap htags, channelsPaired_iff.1 hs⟩ ht).hands

end Sys2Proof.Machine

/-! What commands leave of the queue of waiting commands and of the Command Link. -/

namespace Sys2Proof.Machine

/-- The property looks at the Command Link and the queue alone. -/
def OfLink (P : State → Prop) : Prop := ∀ s t : State, t.cml = s.cml → t.pending = s.pending → P s → P t

namespace OfLink
variable {P : State → Prop} (L : OfLink P)
include L

theorem upstream {s t : State} (h : SameUpstream s t) (hs : P s) : P t := L s t h.cml h.pending hs

theorem measuring {s t : State} (h : SameMeasuring s t) (hs : P s) : P t := L s t h.cml h.pending hs

theorem line (line pos : Count) (runs : List Run) : KeptAlways P (trackLine line pos runs) := by
  intro s hs
  cases htracking : s.htk.tracking
  · rw [trackLine_untracked line pos runs htracking]
    exact hs
  · exact L.measuring (trackLine_tracked line pos runs htracking) (L s _ rfl rfl hs)

theorem travel : KeptByTravel P where
  pins _ s hs := L s _ rfl rfl hs
  grid _ _ s hs := L s _ rfl rfl hs
  cal _ s hs := L s _ rfl rfl hs
  mdc _ s hs := L s _ rfl rfl hs
  openChoices _ s hs := L s _ rfl rfl hs
  slr _ s _ hs := L s _ rfl rfl hs
  submit _ s hs := L s _ rfl rfl hs
  line := L.line
  monitor line raw s hs := by
    obtain ⟨mask, marked, rpq, h⟩ := stuckMonitor_eq line raw s
    rw [h]
    exact L s _ rfl rfl hs
  tracking s hs := L s _ rfl rfl hs
  closeAll flags s hs := L.measuring (closeAll_measuring flags s) (L s _ rfl rfl hs)
  stamps h s hs := L.upstream (stampAdvance_upstream h s) hs
  drops s hs := L.upstream (dropReached_upstream _ s) hs

theorem events : KeptByEvents P :=
  L.travel.events
    (ready := fun h tag s hs => L.upstream (acceptReady_upstream h tag s) hs)
    (done := fun h tag s hs => L.upstream (acceptDone_upstream h tag s) hs)
    (fault := fun h cause s hs => L.upstream (headFault_stock h cause s).upstream hs)
    (bytes := fun _ _ s hs => L s _ rfl rfl hs)
    (gate := fun _ s hs => L s _ rfl rfl hs)
    (change := fun lane s hs => L.upstream (packChangeExpires_upstream lane s) hs)

theorem encoder : KeptByEncoder P := L.travel.encoder fun _ s hs => L s _ rfl rfl hs

theorem requests : KeptByRequests P where
  set x _ _ s _ hs _ _ := L.upstream (afterWrite_upstream x _) (L s _ rfl rfl hs)
  widths _ _ s hs _ _ _ := L s _ rfl rfl hs
  maskAdd _ s hs _ _ _ := L s _ rfl rfl hs
  maskDrop _ s hs := L s _ rfl rfl hs
  start := L.travel.serveStart.keptBy
  pause := L.travel.servePause.keptBy
  resume := L.travel.serveResume.keptBy
  stop := L.travel.serveStop.keptBy
  clear := L.travel.serveClear.keptBy
  calib aRef := (L.travel.serveCalib aRef).keptBy
  fetch _ s hs := L s _ rfl rfl hs
  rearm _ s hs := L s _ rfl rfl hs
  ticket _ _ s hs _ := L.upstream (waiterService_upstream _) (L s _ rfl rfl hs)
  packClose _ _ hs _ := L.upstream (closePack_upstream _ _ _) hs
  target _ _ s hs _ := L.upstream (targetCheck_upstream _ _) (L s _ rfl rfl hs)
  lotOpen _ _ _ s hs _ := L s _ rfl rfl hs
  lotClose _ s hs _ := ⟨L s _ rfl rfl hs, fun _ => L.upstream (closeLot_upstream _ _) (L s _ rfl rfl hs)⟩
  headClear _ s hs _ := L.upstream (armingCheck_upstream _ _) (L s _ rfl rfl hs)
  reset s hs := L s _ rfl rfl hs

end OfLink

/-- Every command but those of the host line and a full reset leaves the Command Link alone, and a full reset alone
puts it at its reset values. -/
theorem exec_event_cml {c : Instr} (hc : Instr.ofHost c = false) {s t : State} (ht : exec c s = .next t) :
    t.cml = s.cml ∨ ∃ strap, t.cml = Cml.reset strap := by
  have L : OfLink (fun t => t.cml = s.cml ∨ ∃ strap, t.cml = Cml.reset strap) := by
    intro u v hcml _ hu
    rw [hcml]
    exact hu
  exact exec_event_kept L.events hc (fun _ => L.encoder) (fun _ _ strap _ _ => .inr ⟨strap, rfl⟩) (.inl rfl) ht

/-- A request other than RESET leaves the Command Link to its reply (R185, R186). -/
theorem serve_cml {r : Request} (hr : r ≠ .reset) {s : State} (hrel : s.pins.resetAsserted = false) :
    (serve r s).1.cml = s.cml := by
  have L : OfLink (fun t => t.cml = s.cml) := fun u v hcml _ hu => hcml.trans hu
  exact L.requests.serve_of_ne_reset hr s hrel rfl

theorem exec_completes (c : Instr) (s : State) : ∃ t, exec c s = .next t := by
  cases c <;> exact ⟨_, rfl⟩

theorem exec_pending {c : Instr} {s t : State} (ht : exec c s = .next t) : t.pending = s.pending := by
  have L : OfLink (fun t => t.pending = s.pending) := fun _ _ _ hpending hu => hpending.trans hu
  exact exec_kept (fun _ _ hu => hu) L.requests L.events (fun _ => L.encoder) (fun _ _ _ _ hu => hu) rfl ht

/-- Settles O2: every arm of the dispatch answers a next state, and no effect writes the queue. -/
theorem everyCommandCompletes : Obligations.EveryCommandCompletes := fun c s =>
  let ⟨t, ht⟩ := exec_completes c s
  ⟨t, ht, exec_pending ht⟩

/-! ### The receive buffer and the reply (R184, R185) -/

/-- The buffer holds at most two requests, a reply is being sent exactly while it holds one, and the link errors are
within their stop. -/
structure Cml.limited (c : Cml) : Prop where
  buffer : c.buffer.length ≤ 2
  reply : c.reply.isSome = !c.buffer.isEmpty
  errors : c.linkErrors ≤ 65535

/-- A request that is answered stands at the front of a buffer that its service does not empty. -/
theorem answer_limited {t : Telegram} {s : State} (hrel : s.pins.resetAsserted = false) {rest : List Telegram}
    (hbuffer : s.cml.buffer = t :: rest) (hlen : s.cml.buffer.length ≤ 2) (herrors : s.cml.linkErrors ≤ 65535) :
    (answer t s).cml.limited := by
  have hserved : (serve t.request s).1.cml = s.cml
      ∨ (serve t.request s).1.cml = { s.cml with linkErrors := 0, buffer := s.cml.buffer.take 1 } := by
    by_cases hr : t.request = .reset
    · rw [hr]
      exact .inr rfl
    · exact .inl (serve_cml hr hrel)
  unfold answer
  simp only
  obtain h | h := hserved
  · rw [h]
    exact ⟨hlen, by simp [hbuffer], herrors⟩
  · rw [h]
    exact ⟨by simp [hbuffer], by simp [hbuffer], Nat.zero_le _⟩

theorem takeRequest_limited {s : State} (hrel : s.pins.resetAsserted = false) (hlen : s.cml.buffer.length ≤ 2)
    (hreply : s.cml.reply.isSome = true → s.cml.buffer ≠ []) (herrors : s.cml.linkErrors ≤ 65535) :
    (takeRequest s).cml.limited := by
  unfold takeRequest
  split
  · rename_i t rest hr hb
    exact answer_limited hrel hb hlen herrors
  · rename_i hr hb
    exact ⟨hlen, by rw [hr, hb]; rfl, herrors⟩
  · rename_i r hr
    exact ⟨hlen, by simp [hr, hreply (by rw [hr]; rfl)], herrors⟩

theorem linkError_limited {s : State} (hs : s.cml.limited) : (linkError s).cml.limited :=
  ⟨hs.buffer, hs.reply, bump_le _⟩

theorem receive_limited {s : State} (t : Telegram) (hrel : s.pins.resetAsserted = false) (hs : s.cml.limited) :
    (receive t s).cml.limited := by
  unfold receive
  split
  · rename_i hroom
    simp only [Config.bufferSize] at hroom
    refine takeRequest_limited hrel ?_ (fun _ => by simp) hs.errors
    simp only [List.length_append, List.length_singleton]
    omega
  · exact linkError_limited hs

theorem replyCompletes_limited {s : State} (hrel : s.pins.resetAsserted = false) (hs : s.cml.limited) :
    (replyCompletes s).cml.limited := by
  unfold replyCompletes
  split
  · exact hs
  · refine takeRequest_limited hrel ?_ (fun h => absurd h nofun) hs.errors
    have := hs.buffer
    simp only [List.length_drop]
    omega

theorem setReceiver_limited {s : State} (r : Receiver) (hs : s.cml.limited) : (setReceiver r s).cml.limited :=
  ⟨hs.buffer, hs.reply, hs.errors⟩

theorem telegramArrives_limited {s : State} (bytes : List Byte) (hrel : s.pins.resetAsserted = false)
    (hs : s.cml.limited) : (telegramArrives bytes s).cml.limited := by
  unfold telegramArrives
  simp only
  split
  · split
    · exact receive_limited _ hrel hs
    · exact hs
  · exact linkError_limited hs

theorem gatherByte_limited {s : State} (gathered : List Byte) (b : Byte) (hrel : s.pins.resetAsserted = false)
    (hs : s.cml.limited) : (gatherByte gathered b s).cml.limited := by
  unfold gatherByte
  split
  · split
    · exact setReceiver_limited _ hs
    · exact linkError_limited (setReceiver_limited _ hs)
  · simp only
    split
    · exact telegramArrives_limited _ hrel (setReceiver_limited _ hs)
    · exact setReceiver_limited _ hs

theorem hostByteArrives_limited {s : State} (b : Byte) (stopBit : Bool) (hrel : s.pins.resetAsserted = false)
    (hs : s.cml.limited) : (hostByteArrives b stopBit s).cml.limited := by
  unfold hostByteArrives
  split
  · split
    · exact setReceiver_limited _ hs
    · exact hs
  · split
    · exact gatherByte_limited _ b hrel hs
    · exact linkError_limited (setReceiver_limited _ hs)

theorem byteGapExpires_limited {s : State} (hs : s.cml.limited) : (byteGapExpires s).cml.limited := by
  unfold byteGapExpires
  split
  · exact hs
  · exact linkError_limited (setReceiver_limited _ hs)

/-- Every command keeps the Command Link within its limits. -/
theorem exec_cml_limited {c : Instr} {s t : State} (hs : s.cml.limited) (ht : exec c s = .next t) : t.cml.limited := by
  cases hc : Instr.ofHost c with
  | true =>
    obtain ⟨f, hf, hkind⟩ := exec_host hc
    have hkept : KeptBy (fun s => s.cml.limited) f := by
      intro u hrel hu
      obtain ⟨b, stopBit, rfl⟩ | rfl | rfl | ⟨t, rfl⟩ := hkind
      · exact hostByteArrives_limited b stopBit hrel hu
      · exact byteGapExpires_limited hu
      · exact replyCompletes_limited hrel hu
      · exact receive_limited t hrel hu
    exact hkept.unlessReset hs (by rw [← hf]; exact ht)
  | false =>
    obtain h | ⟨strap, h⟩ := exec_event_cml hc ht <;> rw [h]
    · exact hs
    · exact ⟨Nat.zero_le _, rfl, Nat.zero_le _⟩

theorem step_cml_limited {s t : State} (hs : s.cml.limited) (ht : step s = .next t) : t.cml.limited := by
  cases hp : s.pending with
  | nil =>
    rw [step_pending_nil hp] at ht
    cases ht
    exact hs
  | cons c rest =>
    rw [step_pending_cons hp] at ht
    exact exec_cml_limited (s := { s with pending := rest }) hs ht

end Sys2Proof.Machine

/-! The capacities of the collections and the stops of the counters (section 0.6): the report queue with the output
chain, the Hide Tracker through a line, and the Line Conditioner. -/

namespace Sys2Proof.Machine

/-! ### The report queue (R195 to R197) -/

/-- The report queue within its capacity, its counters within their stops. -/
structure Rpq.limited (q : Rpq) : Prop where
  queue : q.queue.length ≤ 32 ∧ ∀ r ∈ q.queue.drop 28, 6 ≤ r.level
  drops : q.dropCount ≤ 65535
  tableFull : q.tableFull.count ≤ 65535
  transitFull : q.transitFull.count ≤ 65535

theorem Rpq.limited.offer {q : Rpq} (h : q.limited) (c : Settings) (r : Record) : (q.offer c r).limited := by
  refine ⟨offer_keeps_limits c r q h.queue, ?_, by rw [offer_tableFull]; exact h.tableFull,
    by rw [offer_transitFull]; exact h.transitFull⟩
  obtain ⟨-, he⟩ | ⟨-, -, he⟩ | ⟨-, -, he⟩ := offer_cases c r q <;> rw [he]
  · exact h.drops
  · exact bump_le _
  · exact h.drops

theorem Rpq.limited.setOneShot {q : Rpq} (h : q.limited) (k : OneShotKind) {m : OneShot} (hm : m.count ≤ 65535) :
    (q.setOneShot k m).limited := by
  cases k with
  | tableFull => exact ⟨h.queue, h.drops, hm, h.transitFull⟩
  | transitFull => exact ⟨h.queue, h.drops, h.tableFull, hm⟩

theorem Rpq.limited.oneShot {q : Rpq} (h : q.limited) (k : OneShotKind) : (q.oneShot k).count ≤ 65535 := by
  cases k with
  | tableFull => exact h.tableFull
  | transitFull => exact h.transitFull

theorem Rpq.limited.occurrence {s : State} (h : s.rpq.limited) (k : OneShotKind) (r : Record) :
    (occurrence k r s).rpq.limited := by
  obtain ⟨-, he⟩ | ⟨-, he⟩ := occurrence_cases k r s <;> rw [he]
  · exact (h.offer _ _).setOneShot k (h.oneShot k)
  · exact h.setOneShot k (bump_le _)

/-- Records taken from the front leave the queue within its capacity (R199). -/
theorem Rpq.limited.fetched {q : Rpq} (h : q.limited) (n : Nat) (attn : Bool) :
    Rpq.limited { q with queue := q.queue.drop n, dropCount := 0, attn := attn } := by
  obtain ⟨hlen, hhigh⟩ := h.queue
  refine ⟨⟨?_, fun r hr => hhigh r ?_⟩, Nat.zero_le _, h.tableFull, h.transitFull⟩
  · exact Nat.le_trans (by simp) hlen
  · rw [List.drop_drop, Nat.add_comm] at hr
    rw [← List.drop_drop] at hr
    exact List.mem_of_mem_drop hr

/-! ### Packs and divert counts (R135, R142) -/

/-- A pack within its hides, its scrap count within its stop. -/
structure Pack.limited (p : Pack) : Prop where
  hides : p.hides ≤ 999
  scrap : p.scrap ≤ 65535

theorem Pack.fresh_limited (n : Nat) : (Pack.fresh n).limited := ⟨Nat.zero_le _, Nat.zero_le _⟩

/-- The report queue, every pack and every divert count are within their limits. -/
structure State.stocked (s : State) : Prop where
  rpq : s.rpq.limited
  packs : ∀ i, (s.tlu.packs.get i).limited
  diverts : ∀ i, s.tru.diverts.get i ≤ 65535

theorem SameStock.stocked {s t : State} (h : SameStock s t) (hs : s.stocked) (hr : t.rpq.limited) : t.stocked :=
  ⟨hr, by rw [h.tlu]; exact hs.packs, by rw [h.outputs]; exact hs.diverts⟩

namespace State.stocked
variable {s t : State}

theorem of_same (hs : s.stocked) (hrpq : t.rpq = s.rpq) (hpacks : t.tlu.packs = s.tlu.packs)
    (hdiverts : t.tru.diverts = s.tru.diverts) : t.stocked :=
  ⟨by rw [hrpq]; exact hs.rpq, by rw [hpacks]; exact hs.packs, by rw [hdiverts]; exact hs.diverts⟩

theorem submit (hs : s.stocked) (r : Record) : (submit r s).stocked := ⟨hs.rpq.offer _ _, hs.packs, hs.diverts⟩

theorem occurrence (hs : s.stocked) (k : OneShotKind) (r : Record) : (occurrence k r s).stocked := by
  have h := occurrence_stock k r s
  exact h.stocked hs (hs.rpq.occurrence k r)

theorem withPack (hs : s.stocked) (lane : Fin 4) {p : Pack} (hp : p.limited) :
    State.stocked { s with tlu := { s.tlu with packs := s.tlu.packs.set lane p } } :=
  ⟨hs.rpq, Quad.forall_get_set (Q := fun _ => Pack.limited) hs.packs hp, hs.diverts⟩

theorem storePackTicket (hs : s.stocked) (lane : Fin 4) (cause : CloseCause) (overrun : Bool) :
    (storePackTicket lane cause overrun s).stocked :=
  ⟨hs.rpq.offer _ _, Quad.forall_get_set (Q := fun _ => Pack.limited) hs.packs (Pack.fresh_limited _),
    Quad.forall_get_set (Q := fun _ n => n ≤ 65535) hs.diverts (Nat.zero_le _)⟩

theorem closePack (hs : s.stocked) (lane : Fin 4) (cause : CloseCause) : (closePack lane cause s).stocked := by
  obtain ⟨-, he⟩ | ⟨-, he⟩ := closePack_cases lane cause s <;> rw [he]
  · exact hs.storePackTicket lane cause false
  · exact ⟨hs.rpq.offer _ _, Quad.forall_get_set (Q := fun _ => Pack.limited) hs.packs
      ⟨(hs.packs lane).hides, (hs.packs lane).scrap⟩, hs.diverts⟩

theorem targetCheck (hs : s.stocked) (lane : Fin 4) : (targetCheck lane s).stocked := by
  obtain ⟨-, -, he⟩ | he := targetCheck_cases lane s <;> rw [he]
  · exact hs.closePack lane .target
  · exact hs

theorem tallyPack (hs : s.stocked) (lane : Fin 4) (figure area : Nat) (hroom : packHasRoom lane s = true) :
    (tallyPack lane figure area s).stocked := by
  have hhides : (s.tlu.packs.get lane).hides < 999 := of_decide_eq_true hroom
  have hpack := hs.withPack lane (p := { s.tlu.packs.get lane with
    hides := (s.tlu.packs.get lane).hides + 1
    units := (s.tlu.packs.get lane).units + figure
    area := (s.tlu.packs.get lane).area + area }) ⟨hhides, (hs.packs lane).scrap⟩
  exact hpack.targetCheck lane

theorem storeLotTicket (hs : s.stocked) (slot : Fin 4) (overrun : Bool) : (storeLotTicket slot overrun s).stocked :=
  ⟨hs.rpq.offer _ _, hs.packs, hs.diverts⟩

theorem closeLot (hs : s.stocked) (slot : Fin 4) : (closeLot slot s).stocked := by
  obtain ⟨-, he⟩ | ⟨-, he⟩ := closeLot_cases slot s
  · rw [he]
    exact hs.storeLotTicket slot false
  · exact hs.of_same (by rw [he]) (by rw [he]) (by rw [he])

theorem lowerInFlight (hs : s.stocked) (slot : Fin 4) : (lowerInFlight slot s).stocked := by
  simp only [Machine.lowerInFlight]
  split
  · exact (hs.of_same (t := setLot slot _ s) rfl rfl rfl).closeLot slot
  · exact hs.of_same rfl rfl rfl

theorem releaseLots (hs : s.stocked) (lots : Quad Bool) : (releaseLots lots s).stocked :=
  KeptAlways.foldl (P := State.stocked) (fun i _ hs => hs.lowerInFlight i) _ s hs

/-- The tally of a fate that the decision gave (R138): a hide is packed only while its pack has room (R137). -/
theorem tallyFate (hs : s.stocked) {fate : Fate} (e : Entry) (flags : FlagSet)
    (hroom : fate = .pack → packHasRoom e.lane s = true) : (tallyFate fate e flags s).stocked := by
  cases fate with
  | pack => exact (hs.tallyPack e.lane e.figure e.area (hroom rfl)).of_same rfl rfl rfl
  | scrap =>
    simp only [Machine.tallyFate]
    split
    · exact hs.withPack e.lane ⟨(hs.packs e.lane).hides, bump_le _⟩
    · exact hs
  | divert | none => exact hs

theorem pulseGate (hs : s.stocked) (lane : Fin 4) : (pulseGate lane s).stocked :=
  ⟨hs.rpq, hs.packs, Quad.forall_get_set (Q := fun _ n => n ≤ 65535) hs.diverts (bump_le _)⟩

end State.stocked

/-! ### Stamps and drops -/

theorem armingCheck_rpq (h : Fin 4) (s : State) : (armingCheck h s).rpq = s.rpq := by
  unfold armingCheck
  split
  · split <;> rfl
  · split
    · split <;> rfl
    · rfl
  all_goals rfl

theorem takeFromHand_rpq (tag : Tag) (o : Order) (s : State) : (takeFromHand tag o s).rpq = s.rpq := by
  obtain ⟨-, -, h⟩ | ⟨-, h⟩ := takeFromHand_cases tag o s
  · rw [h]
    rfl
  · rw [h]

theorem fireIfDue_rpq (h : Fin 4) (s : State) : (fireIfDue h s).rpq = s.rpq := by
  unfold fireIfDue
  split <;> rfl

theorem missOrder_rpq_limited (tag : Tag) (lane : Fin 4) (o : Order) {s : State} (hs : s.rpq.limited) :
    (missOrder tag lane o s).rpq.limited := by
  unfold missOrder
  simp only [takeFromHand_rpq]
  exact hs.offer _ _

theorem stampAdvance_stocked (h : Fin 4) : KeptAlways State.stocked (stampAdvance h) := by
  intro s hs
  refine (stampAdvance_stock h s).stocked hs ?_
  have hfired : (fireIfDue h s).rpq.limited := by
    rw [fireIfDue_rpq]
    exact hs.rpq
  unfold stampAdvance
  simp only
  split
  · exact hfired
  · rw [armingCheck_rpq]
    exact KeptAlways.foldl (P := fun s => s.rpq.limited) (fun x _ hs => missOrder_rpq_limited x.1 x.2.1 x.2.2 hs) _ _
      hfired

theorem settle_stocked (e : Entry) {s : State} (hs : s.stocked) : (settle e s).2.2.stocked := by
  refine (settle_stock e s).stocked hs ?_
  cases he : e.stamp with
  | none =>
    have hsame : (settle e s).2.2 = s := by simp [settle, he]
    rw [hsame]
    exact hs.rpq
  | some o =>
    cases hst : o.state with
    | done | missed _ | failed =>
      rw [settle_stands he (by simp [hst])]
      exact hs.rpq
    | firing =>
      rw [settle_firing he hst]
      exact hs.rpq
    | waiting | arming | armed =>
      rw [settle_misses he (by simp [hst])]
      simp only [armingCheck_rpq, takeFromHand_rpq]
      exact hs.rpq.offer _ _

theorem decideFate_pack {lane : Fin 4} {flags : FlagSet} {s : State} (h : (decideFate lane flags s).1 = .pack) :
    packHasRoom lane s = true := by
  simp only [decideFate] at h
  split at h
  · exact absurd h nofun
  · split at h
    · exact absurd h nofun
    · split at h
      · assumption
      · split at h <;> exact absurd h nofun

theorem dropEntry_stocked (e : Entry) {s : State} (hs : s.stocked) : (dropEntry e s).stocked := by
  have hsettled := settle_stocked e hs
  have hreleased := (hsettled.tallyFate (fate := (decideFate e.lane (settle e s).2.1 (settle e s).2.2).1) e
    (decideFate e.lane (settle e s).2.1 (settle e s).2.2).2 decideFate_pack).releaseLots e.lots
  rw [dropEntry_eq]
  refine State.stocked.submit ?_ _
  split
  · exact hreleased.pulseGate e.lane
  · exact hreleased

theorem dropReached_stocked (n : Nat) : KeptAlways State.stocked (dropReached n) := by
  induction n with
  | zero => exact fun _ hs => hs
  | succ n ih =>
    intro s hs
    unfold dropReached
    split
    · exact hs
    · split
      · exact ih _ (dropEntry_stocked _ (hs.of_same rfl rfl rfl))
      · exact hs

theorem reportLateClose_stocked (e : Entry) : KeptAlways State.stocked (reportLateClose e) := by
  intro s hs
  unfold reportLateClose
  split
  · exact hs
  · split
    · exact hs.submit _
    · exact hs

theorem checkNewOrder_stocked (e : Entry) : KeptAlways State.stocked (checkNewOrder e) := by
  intro s hs
  refine (checkNewOrder_stock e s).stocked hs ?_
  unfold checkNewOrder
  split
  · exact hs.rpq
  · split
    · rw [armingCheck_rpq]
      exact hs.rpq
    · exact hs.rpq

theorem raiseInFlight_stocked (lots : Quad Bool) : KeptAlways State.stocked (raiseInFlight lots) :=
  fun _ hs => hs.of_same rfl rfl rfl

theorem insertHide_stocked (m : ClosedHide) (lane : Fin 4) : KeptAlways State.stocked (insertHide m lane) := by
  intro s hs
  have hjoined := reportLateClose_stocked (newEntry m lane s) _ (raiseInFlight_stocked (newEntry m lane s).lots s hs)
  unfold insertHide
  simp only
  split
  · exact checkNewOrder_stocked _ _ (dropEntry_stocked _ hjoined)
  · exact checkNewOrder_stocked _ _ (hjoined.of_same rfl rfl rfl)

theorem transitTakes_stocked (m : ClosedHide) : KeptAlways State.stocked (transitTakes m) := by
  intro s hs
  unfold transitTakes
  split
  · exact hs.submit _
  · split
    · exact (hs.occurrence _ _).submit _
    · exact insertHide_stocked _ _ s hs

theorem offerHide_stocked (tag : Tag) (raw : Nat) (flags : FlagSet) {s : State} (hs : s.stocked) :
    (offerHide tag raw flags s).2.stocked := by
  unfold offerHide
  split
  · split
    · unfold judgeReference
      simp only
      split
      · exact (hs.submit _).of_same rfl rfl rfl
      · split
        · exact (hs.submit _).of_same rfl rfl rfl
        · exact (hs.submit _).of_same rfl rfl rfl
    · exact hs
  · exact hs
  · exact hs

theorem areaTakes_stocked (h : Hide) : KeptAlways State.stocked (areaTakes h) := fun s hs =>
  transitTakes_stocked _ _ (offerHide_stocked h.tag (rawArea h.widthSum (pitch s.settings)) h.flags hs)

/-- The output chain is within its limits, the transit list among it. -/
structure State.shipping (s : State) : Prop where
  stocked : s.stocked
  transit : s.tru.transit.length ≤ 24

theorem areaTakes_shipping (h : Hide) : KeptAlways State.shipping (areaTakes h) := fun s hs =>
  ⟨areaTakes_stocked h s hs.stocked, (areaTakes_tags h s hs.transit).2⟩

theorem handOnAll_shipping (hides : List Hide) : KeptAlways State.shipping (handOnAll hides) :=
  KeptAlways.foldl areaTakes_shipping hides

end Sys2Proof.Machine

/-! The capacities through a line, the mask and width requests, and every step (section 0.6). -/

namespace Sys2Proof.Machine

/-! ### The Hide Tracker (R34, R35, R37) -/

/-- An open hide has 1 to 16 pieces. -/
def Hide.pieced (h : Hide) : Prop := 1 ≤ h.pieces ∧ h.pieces ≤ 16

/-- An open hide has 1 to 8 last runs. -/
def Hide.shaped (h : Hide) : Prop := 1 ≤ h.lastRuns.length ∧ h.lastRuns.length ≤ 8

/-- The table and the shadow list within their capacities, and every open hide's parts within theirs. -/
structure Htk.limited (t : Htk) : Prop where
  table : t.table.length ≤ 16
  shadow : t.shadow.length ≤ 16
  hides : ∀ h ∈ t.table, h.shaped ∧ h.pieced

theorem foldl_absorb_parts (l : List Hide) {a : Hide} (ha : a.shaped ∧ a.pieced) :
    (l.foldl absorb a).shaped ∧ (l.foldl absorb a).pieced := by
  induction l generalizing a with
  | nil => exact ha
  | cons b l ih =>
    obtain ⟨hshaped, hlow, -⟩ := ha
    refine ih ⟨hshaped, ?_, Nat.min_le_right _ _⟩
    show 1 ≤ min (a.pieces + b.pieces) 16
    omega

theorem merged_parts {groups : List Group} {table : List Hide} {h h' : Hide} (hh : h.shaped ∧ h.pieced)
    (he : merged groups table h = some h') : h'.shaped ∧ h'.pieced := by
  unfold merged at he
  split at he
  · rw [← Option.some.inj he]
    exact hh
  · split at he
    · rw [← Option.some.inj he]
      exact foldl_absorb_parts _ hh
    · exact absurd he nofun

/-- The table after some openings is within its capacity, and every hide of it has last runs or a run of the line. -/
structure Openings.limited (o : Openings) : Prop where
  room : o.table.length ≤ 16
  hides : ∀ h ∈ o.table, (h.shaped ∨ ∃ a ∈ o.assigned, a.2 = h.tag) ∧ h.pieced

theorem placeRun_limited (x : LineInput) (shadow : List Span) {o : Openings} (ho : o.limited)
    (r : Run × Option Tag) : (placeRun x shadow o r).limited := by
  have hkept (a : Run × Tag) (h : Hide) (hh : h ∈ o.table) :
      (h.shaped ∨ ∃ b ∈ o.assigned ++ [a], b.2 = h.tag) ∧ h.pieced := by
    obtain ⟨hparts, hpieced⟩ := ho.hides h hh
    refine ⟨hparts.imp_right ?_, hpieced⟩
    rintro ⟨b, hb, htag⟩
    exact ⟨b, List.mem_append_left _ hb, htag⟩
  unfold placeRun
  split
  · exact ⟨ho.room, hkept _⟩
  · split
    · rename_i hroom
      simp only [Config.tableSize] at hroom
      refine ⟨by simp only [List.length_append, List.length_singleton]; omega, fun h hh => ?_⟩
      obtain hh | hh := List.mem_append.1 hh
      · exact hkept _ h hh
      · rw [List.mem_singleton.1 hh]
        exact ⟨.inr ⟨_, List.mem_append_right _ (List.mem_singleton_self _), rfl⟩, Nat.le_refl 1, (by decide : 1 ≤ 16)⟩
    · exact ⟨ho.room, ho.hides⟩

theorem lineOpenings_limited (x : LineInput) {t : Htk} (ht : t.limited) : (lineOpenings x t).limited := by
  have hstart : Openings.limited
      ⟨mergedTable (resolvedGroups x.line t.table x.runs) t.table, t.nextTag, [], []⟩ := by
    have hlen := (mergedTable_tags_sublist (resolvedGroups x.line t.table x.runs) t.table).length_le
    simp only [tagsOf, List.length_map] at hlen
    refine ⟨Nat.le_trans hlen ht.table, fun h hh => ?_⟩
    rw [mergedTable_eq] at hh
    obtain ⟨h', hh', he⟩ := List.mem_filterMap.1 hh
    obtain ⟨hshaped, hpieced⟩ := merged_parts (ht.hides h' hh') he
    exact ⟨.inl hshaped, hpieced⟩
  unfold lineOpenings
  generalize x.runs.map _ = l
  generalize Openings.mk _ _ _ _ = o at hstart ⊢
  induction l generalizing o with
  | nil => exact hstart
  | cons r l ih => exact ih _ (placeRun_limited x t.shadow hstart r)

theorem keptRuns_length {mine : List Run} (h : mine ≠ []) :
    1 ≤ (keptRuns mine).length ∧ (keptRuns mine).length ≤ 8 := by
  have := List.length_pos_iff.2 h
  unfold keptRuns
  split <;> rename_i hlen <;> simp only [Config.lastRunsSize] at hlen
  · simp only [List.length_map]
    omega
  · simp only [List.length_append, List.length_map, List.length_take, List.length_singleton]
    omega

@[simp] theorem stepHide_pieces (x : LineInput) (mine : List Run) (h : Hide) :
    (stepHide x mine h).1.pieces = h.pieces := by
  unfold stepHide
  split
  · rfl
  · simp only
    split <;> rfl

theorem stepHide_lastRuns_nil (x : LineInput) (h : Hide) : (stepHide x [] h).1.lastRuns = h.lastRuns := rfl

theorem stepHide_lastRuns {x : LineInput} {mine : List Run} (hmine : mine ≠ []) (h : Hide) :
    (stepHide x mine h).1.lastRuns = keptRuns mine := by
  cases mine with
  | nil => exact absurd rfl hmine
  | cons r l =>
    simp only [stepHide]
    split <;> rfl

/-- The runs of the line that are assigned to a hide. -/
def runsOf (assigned : List (Run × Tag)) (tag : Tag) : List Run :=
  (assigned.filter (fun a => decide (a.2 = tag))).map (fun a => a.1)

theorem runsOf_ne_nil {assigned : List (Run × Tag)} {tag : Tag} (h : ∃ a ∈ assigned, a.2 = tag) :
    runsOf assigned tag ≠ [] := by
  obtain ⟨a, ha, htag⟩ := h
  intro hnil
  have hmem : a.1 ∈ runsOf assigned tag :=
    List.mem_map.2 ⟨a, List.mem_filter.2 ⟨ha, decide_eq_true htag⟩, rfl⟩
  rw [hnil] at hmem
  exact absurd hmem List.not_mem_nil

/-- After its line a hide has the last runs and pieces of its step (R47 to R52). -/
theorem lineOfHide_parts (x : LineInput) (assigned : List (Run × Tag)) (h : Hide) :
    (lineOfHide x assigned h).1.lastRuns = (stepHide x (runsOf assigned h.tag) h).1.lastRuns
    ∧ (lineOfHide x assigned h).1.pieces = h.pieces := by
  simp only [lineOfHide]
  split
  · exact ⟨rfl, stepHide_pieces x _ h⟩
  · exact ⟨rfl, stepHide_pieces x _ h⟩

theorem lineOfHide_limited (x : LineInput) {assigned : List (Run × Tag)} {h : Hide}
    (hh : (h.shaped ∨ ∃ a ∈ assigned, a.2 = h.tag) ∧ h.pieced) :
    (lineOfHide x assigned h).1.shaped ∧ (lineOfHide x assigned h).1.pieced := by
  obtain ⟨hparts, hpieced⟩ := hh
  obtain ⟨hruns, hpieces⟩ := lineOfHide_parts x assigned h
  refine ⟨?_, by rw [Hide.pieced, hpieces]; exact hpieced⟩
  rw [Hide.shaped, hruns]
  by_cases hmine : runsOf assigned h.tag = []
  · rw [hmine, stepHide_lastRuns_nil]
    exact hparts.resolve_right fun hex => runsOf_ne_nil hex hmine
  · rw [stepHide_lastRuns hmine]
    exact keptRuns_length hmine

theorem shadowList_length (offered : List Span) : (shadowList offered).length ≤ 16 := by
  unfold shadowList
  split
  · exact Nat.zero_le _
  · exact List.length_take_le _ _

/-- A line keeps the Hide Tracker within its limits (R38). -/
theorem lineOutcome_limited (x : LineInput) {t : Htk} (ht : t.limited) :
    (lineOutcome x t).staying.length ≤ 16 ∧ (lineOutcome x t).shadow.length ≤ 16
    ∧ ∀ h ∈ (lineOutcome x t).staying, h.shaped ∧ h.pieced := by
  have hopened := lineOpenings_limited x ht
  have hperm := lineOutcome_hides_perm x t
  have hlen := hperm.length_eq
  simp only [List.length_append, List.length_map] at hlen
  have hroom := hopened.room
  refine ⟨by omega, shadowList_length _, fun h hh => ?_⟩
  have hmem := hperm.mem_iff.1 (List.mem_append_right (lineOutcome x t).closing hh)
  obtain ⟨h', hh', rfl⟩ := List.mem_map.1 hmem
  exact lineOfHide_limited x (hopened.hides h' hh')

/-! ### The Line Conditioner (R18, R23, R30, R31) -/

/-- A rising list of cells. -/
def CellList (l : List Nat) : Prop := l.Pairwise (· < ·) ∧ ∀ i ∈ l, i < 1024

/-- A cell inserted in its ascending place. -/
theorem pairwise_insertIndex {l : List Nat} (h : l.Pairwise (· < ·)) {i : Nat} (hnew : i ∉ l) :
    (insertIndex i l).Pairwise (· < ·) := by
  have hsorted := insertBy_sorted id i l (h.imp Nat.le_of_lt)
  have hnodup : (insertIndex i l).Nodup :=
    (insertBy_perm id i l).nodup_iff.2 (List.nodup_cons.2 ⟨hnew, h.imp Nat.ne_of_lt⟩)
  exact hsorted.imp₂ (fun a b hle hne => Nat.lt_of_le_of_ne hle hne) hnodup

theorem CellList.insertIndex {l : List Nat} (h : CellList l) {i : Nat} (hi : i < 1024) (hnew : i ∉ l) :
    CellList (insertIndex i l) := by
  obtain ⟨hrise, hcells⟩ := h
  refine ⟨pairwise_insertIndex hrise hnew, fun j hj => ?_⟩
  obtain rfl | hj := (mem_insertBy id i j l).1 hj
  · exact hi
  · exact hcells j hj

theorem CellList.filter {l : List Nat} (h : CellList l) (p : Nat → Bool) : CellList (l.filter p) :=
  ⟨h.1.filter p, fun i hi => h.2 i (List.mem_filter.1 hi).1⟩

/-- The Line Conditioner within its limits. -/
structure Lcn.limited (l : Lcn) : Prop where
  maskRoom : l.mask.length ≤ 32
  mask : CellList l.mask
  marked : CellList l.marked
  widthCells : l.widths.length = 1024
  widths : ∀ w ∈ l.widths, 1000 ≤ w ∧ w ≤ 8000
  counterCells : l.counters.length = 1024
  counters : ∀ c ∈ l.counters, c ≤ 65535

theorem countCells_length (raw : Readings) (i : Nat) (counters : List Nat) :
    (countCells raw i counters).length = counters.length := by
  induction counters generalizing i with
  | nil => rfl
  | cons c rest ih => simp [countCells, ih]

theorem countCells_le (raw : Readings) (i : Nat) (counters : List Nat) : ∀ c ∈ countCells raw i counters, c ≤ 65535 := by
  induction counters generalizing i with
  | nil => nofun
  | cons c rest ih =>
    intro d hd
    obtain rfl | hd := List.mem_cons.1 hd
    · split
      · exact bump_le c
      · exact Nat.zero_le _
    · exact ih (i + 1) d hd

/-- What every cell that becomes stuck keeps, the examination of the counters keeps (R31). -/
theorem examineCells_kept {P : State → Prop} (line : Count)
    (h : ∀ cell counter s, cell < 1024 → cell ∉ s.lcn.marked → P s → P (cellStuck line cell counter s))
    (counters : List Nat) (i : Nat) (hi : i + counters.length ≤ 1024) {s : State} (hs : P s) :
    P (examineCells line i counters s) := by
  induction counters generalizing i s with
  | nil => exact hs
  | cons c rest ih =>
    simp only [List.length_cons] at hi
    refine ih (i + 1) (by omega) ?_
    split
    · rename_i hstuck
      exact h i c s (by omega) hstuck.2 hs
    · exact hs

theorem cellStuck_limited {line : Count} {cell counter : Nat} {s : State} (hcell : cell < 1024)
    (hnew : cell ∉ s.lcn.marked) (hs : s.lcn.limited ∧ s.rpq.limited) :
    (cellStuck line cell counter s).lcn.limited ∧ (cellStuck line cell counter s).rpq.limited := by
  obtain ⟨hl, hr⟩ := hs
  have hmarked := hl.marked.insertIndex hcell hnew
  refine ⟨?_, hr.offer _ _⟩
  unfold cellStuck
  simp only [submit_lcn]
  split
  · rename_i hadded
    simp only [Bool.and_eq_true, Bool.not_eq_true', decide_eq_false_iff_not, decide_eq_true_eq] at hadded
    obtain ⟨⟨-, hout⟩, hroom⟩ := hadded
    refine ⟨?_, hl.mask.insertIndex hcell hout, hmarked, hl.widthCells, hl.widths, hl.counterCells, hl.counters⟩
    simp only [Config.maskSize] at hroom
    simp only [Machine.insertIndex, insertBy_length]
    omega
  · exact ⟨hl.maskRoom, hl.mask, hmarked, hl.widthCells, hl.widths, hl.counterCells, hl.counters⟩

theorem stuckMonitor_limited (line : Count) (raw : Readings) {s : State} (hs : s.lcn.limited ∧ s.rpq.limited) :
    (stuckMonitor line raw s).lcn.limited ∧ (stuckMonitor line raw s).rpq.limited := by
  obtain ⟨hl, hr⟩ := hs
  have hlen := (countCells_length raw 0 s.lcn.counters).trans hl.counterCells
  exact examineCells_kept (P := fun s => s.lcn.limited ∧ s.rpq.limited) line
    (fun _ _ _ hcell hnew hs => cellStuck_limited hcell hnew hs) _ 0 (by omega)
    ⟨⟨hl.maskRoom, hl.mask, hl.marked, hl.widthCells, hl.widths, hlen, countCells_le raw 0 _⟩, hr⟩

theorem Lcn.limited.withWidths {l : Lcn} (h : l.limited) {start : Nat} {ws : List Nat} (hfit : start + ws.length ≤ 1024)
    (hws : ∀ w ∈ ws, 1000 ≤ w ∧ w ≤ 8000) :
    Lcn.limited { l with widths := l.widths.take start ++ ws ++ l.widths.drop (start + ws.length) } := by
  refine ⟨h.maskRoom, h.mask, h.marked, ?_, fun w hw => ?_, h.counterCells, h.counters⟩
  · simp only [List.length_append, List.length_take, List.length_drop, h.widthCells]
    omega
  · simp only [List.mem_append] at hw
    obtain (hw | hw) | hw := hw
    · exact h.widths w (List.mem_of_mem_take hw)
    · exact hws w hw
    · exact h.widths w (List.mem_of_mem_drop hw)

/-! ### Every step -/

/-- Every block but the Tally Unit's store and the Command Link is within its limits. -/
structure State.limited (s : State) : Prop where
  htk : s.htk.limited
  lcn : s.lcn.limited
  bad : s.slr.badCount ≤ 15
  shipping : s.shipping

namespace State.limited
variable {s t : State}

theorem of_upstream (hs : s.limited) (h : SameMeasuring s t) (ht : t.shipping) : t.limited :=
  ⟨by rw [h.htk]; exact hs.htk, by rw [h.lcn]; exact hs.lcn, by rw [h.slr]; exact hs.bad, ht⟩

theorem of_shipping (hs : s.limited) (h : t.shipping) (hhtk : t.htk = s.htk) (hlcn : t.lcn = s.lcn)
    (hslr : t.slr = s.slr) : t.limited :=
  ⟨by rw [hhtk]; exact hs.htk, by rw [hlcn]; exact hs.lcn, by rw [hslr]; exact hs.bad, h⟩

/-- What a state is limited by is unchanged: the Hide Tracker, the Line Conditioner, the Scan Line Receiver, the report
queue, the packs, the transit list and the divert counts. -/
theorem of_same (hs : s.limited) (hhtk : t.htk = s.htk) (hlcn : t.lcn = s.lcn) (hslr : t.slr = s.slr)
    (hrpq : t.rpq = s.rpq) (hpacks : t.tlu.packs = s.tlu.packs) (htransit : t.tru.transit = s.tru.transit)
    (hdiverts : t.tru.diverts = s.tru.diverts) : t.limited :=
  hs.of_shipping ⟨hs.shipping.stocked.of_same hrpq hpacks hdiverts, by rw [htransit]; exact hs.shipping.transit⟩
    hhtk hlcn hslr

theorem withHtk (hs : s.limited) {v : Htk} (hv : v.limited) : State.limited { s with htk := v } :=
  ⟨hv, hs.lcn, hs.bad, hs.shipping.stocked.of_same rfl rfl rfl, hs.shipping.transit⟩

theorem submit (hs : s.limited) (r : Record) : (submit r s).limited :=
  ⟨hs.htk, hs.lcn, hs.bad, hs.shipping.stocked.submit r, hs.shipping.transit⟩

/-- Hides handed on from a state whose output chain is within its limits. -/
theorem handOnAll (hs : s.limited) (hides : List Hide) : (handOnAll hides s).limited :=
  hs.of_upstream (handOnAll_measuring hides s) (handOnAll_shipping hides s hs.shipping)

theorem of_stock (hs : s.limited) (h : SameStock s t) (ht : t.stocked) : t.limited :=
  hs.of_upstream h.upstream.measuring ⟨ht, by rw [h.transit_length]; exact hs.shipping.transit⟩

end State.limited

theorem reportTableFull_limited (line : Count) (o : LineOutcome) : KeptAlways State.limited (reportTableFull line o) := by
  intro s hs
  refine hs.of_stock (reportTableFull_stock line o s)
    ((reportTableFull_stock line o s).stocked hs.shipping.stocked ?_)
  unfold reportTableFull
  split
  · exact hs.shipping.stocked.rpq
  · exact hs.shipping.stocked.rpq.occurrence _ _

theorem trackLine_limited (line pos : Count) (runs : List Run) : KeptAlways State.limited (trackLine line pos runs) := by
  intro s hs
  unfold trackLine
  split
  · obtain ⟨htable, hshadow, hhides⟩ := lineOutcome_limited (lineInput line pos runs s) hs.htk
    have hstepped := hs.withHtk (v := { s.htk with
      table := (lineOutcome (lineInput line pos runs s) s.htk).staying
      nextTag := (lineOutcome (lineInput line pos runs s) s.htk).nextTag
      shadow := (lineOutcome (lineInput line pos runs s) s.htk).shadow
      line := line }) ⟨htable, hshadow, hhides⟩
    exact State.limited.handOnAll (reportTableFull_limited line _ _ hstepped) _
  · exact hs

theorem stuckMonitor_keeps_limits (line : Count) (raw : Readings) : KeptAlways State.limited (stuckMonitor line raw) := by
  intro s hs
  have hlimits := stuckMonitor_limited line raw ⟨hs.lcn, hs.shipping.stocked.rpq⟩
  obtain ⟨mask, marked, rpq, h⟩ := stuckMonitor_eq line raw s
  rw [h] at hlimits ⊢
  exact ⟨hs.htk, hlimits.1, hs.bad, ⟨hlimits.2, hs.shipping.stocked.packs, hs.shipping.stocked.diverts⟩,
    hs.shipping.transit⟩

theorem limited_travel : KeptByTravel State.limited where
  pins _ s hs := hs.of_same rfl rfl rfl rfl rfl rfl rfl
  grid _ _ s hs := hs.of_same rfl rfl rfl rfl rfl rfl rfl
  cal _ s hs := hs.of_same rfl rfl rfl rfl rfl rfl rfl
  mdc _ s hs := hs.of_same rfl rfl rfl rfl rfl rfl rfl
  openChoices _ s hs := hs.of_same rfl rfl rfl rfl rfl rfl rfl
  slr v s hv hs := ⟨hs.htk, hs.lcn, Nat.le_trans hv (Nat.max_le.2 ⟨hs.bad, Nat.le_refl 15⟩),
    hs.shipping.stocked.of_same rfl rfl rfl, hs.shipping.transit⟩
  submit r s hs := hs.submit r
  line := trackLine_limited
  monitor := stuckMonitor_keeps_limits
  tracking s hs := hs.withHtk (v := { s.htk with tracking := true, shadow := [] })
    ⟨hs.htk.table, Nat.zero_le _, hs.htk.hides⟩
  closeAll flags s hs := (hs.withHtk (v := { s.htk with table := [], shadow := [], tracking := false })
    ⟨Nat.zero_le _, Nat.zero_le _, fun _ hh => absurd hh List.not_mem_nil⟩).handOnAll _
  stamps h s hs := hs.of_stock (stampAdvance_stock h s) (stampAdvance_stocked h s hs.shipping.stocked)
  drops s hs := by
    have hlen := (dropReached_tags s.tru.transit.length s).length_le
    simp only [List.length_map] at hlen
    exact hs.of_upstream (dropReached_upstream _ s).measuring
      ⟨dropReached_stocked _ s hs.shipping.stocked, Nat.le_trans hlen hs.shipping.transit⟩

theorem acceptReady_rpq (h : Fin 4) (tag : Tag) (s : State) : (acceptReady h tag s).rpq = s.rpq := by
  unfold acceptReady
  simp only
  split
  · split
    · rfl
    · split
      · rfl
      · rw [armingCheck_rpq]
        rfl
  · rfl

theorem acceptDone_rpq (h : Fin 4) (tag : Tag) (s : State) : (acceptDone h tag s).rpq = s.rpq := by
  unfold acceptDone
  simp only
  split
  · rw [armingCheck_rpq]
    split <;> rfl
  · rfl

theorem headFault_rpq_limited (h : Fin 4) (cause : HeadCause) {s : State} (hs : s.rpq.limited) :
    (headFault h cause s).rpq.limited := by
  unfold headFault
  simp only
  refine Rpq.limited.offer ?_ _ _
  simp only [setChannel_rpq]
  split <;> exact hs

theorem limited_events : KeptByEvents State.limited :=
  limited_travel.events
    (ready := fun h tag s hs => hs.of_stock (acceptReady_stock h tag s)
      ((acceptReady_stock h tag s).stocked hs.shipping.stocked (by rw [acceptReady_rpq]; exact hs.shipping.stocked.rpq)))
    (done := fun h tag s hs => hs.of_stock (acceptDone_stock h tag s)
      ((acceptDone_stock h tag s).stocked hs.shipping.stocked (by rw [acceptDone_rpq]; exact hs.shipping.stocked.rpq)))
    (fault := fun h cause s hs => hs.of_stock (headFault_stock h cause s)
      ((headFault_stock h cause s).stocked hs.shipping.stocked (headFault_rpq_limited h cause hs.shipping.stocked.rpq)))
    (bytes := fun _ _ _ hs =>
      hs.of_same rfl rfl rfl rfl rfl rfl rfl)
    (gate := fun _ _ hs =>
      hs.of_same rfl rfl rfl rfl rfl rfl rfl)
    (change := fun lane s hs => by
      unfold packChangeExpires
      split
      · exact hs.of_same rfl rfl rfl rfl rfl rfl rfl
      · exact hs)

theorem waiterService_stocked : KeptAlways State.stocked waiterService := by
  intro s hs
  unfold waiterService
  split
  · exact hs
  · rename_i lane rest _
    have htaken : State.stocked
        { s with tlu := { s.tlu with waiters := rest, holdLine := s.tlu.holdLine.set lane false } } :=
      hs.of_same rfl rfl rfl
    exact htaken.storePackTicket lane _ true
  · rename_i slot rest _
    have htaken : State.stocked { s with tlu := { s.tlu with waiters := rest } } := hs.of_same rfl rfl rfl
    exact htaken.storeLotTicket slot true

/-- An operation of the tally keeps the limits. -/
theorem State.limited.of_tally {s t : State} (hs : s.limited) (h : SameUpstream s t) (ht : t.stocked)
    (htransit : t.tru.transit = s.tru.transit) : t.limited :=
  hs.of_upstream h.measuring ⟨ht, by rw [htransit]; exact hs.shipping.transit⟩

theorem targetCheck_limited (lane : Fin 4) : KeptAlways State.limited (targetCheck lane) := fun s hs =>
  hs.of_tally (targetCheck_upstream lane s) (hs.shipping.stocked.targetCheck lane) (targetCheck_transit lane s)

theorem afterWrite_limited (x : Setting) : KeptAlways State.limited (afterWrite x) := by
  intro s hs
  cases x with
  | target l => exact targetCheck_limited l s hs
  | gatePresent l =>
    simp only [afterWrite]
    split
    · exact hs
    · exact hs.of_same rfl rfl rfl rfl rfl rfl rfl
  | attnThreshold =>
    have hrpq : (evaluateAttn s).rpq.limited := by
      obtain ⟨hqueue, hdrops, htable, htransit⟩ := hs.shipping.stocked.rpq
      exact ⟨hqueue, hdrops, htable, htransit⟩
    exact hs.of_tally ⟨rfl, rfl, rfl, rfl, rfl, rfl, rfl, rfl, rfl, rfl, rfl⟩
      ⟨hrpq, hs.shipping.stocked.packs, hs.shipping.stocked.diverts⟩ rfl
  | _ => exact hs

theorem State.limited.withLcn {s : State} (hs : s.limited) {v : Lcn} (hv : v.limited) :
    State.limited { s with lcn := v } :=
  ⟨hs.htk, hv, hs.bad, hs.shipping.stocked.of_same rfl rfl rfl, hs.shipping.transit⟩

theorem State.limited.withRpq {s : State} (hs : s.limited) {v : Rpq} (hv : v.limited) :
    State.limited { s with rpq := v } :=
  ⟨hs.htk, hs.lcn, hs.bad, ⟨hv, hs.shipping.stocked.packs, hs.shipping.stocked.diverts⟩, hs.shipping.transit⟩

theorem Lcn.limited.maskAdd {l : Lcn} (h : l.limited) {i : Nat} (hi : i < 1024) (hnew : i ∉ l.mask)
    (hroom : l.mask.length < 32) : Lcn.limited { l with mask := insertIndex i l.mask } :=
  ⟨by simp only [Machine.insertIndex, insertBy_length]; omega, h.mask.insertIndex hi hnew, h.marked, h.widthCells,
    h.widths, h.counterCells, h.counters⟩

theorem Lcn.limited.maskDrop {l : Lcn} (h : l.limited) (i : Nat) :
    Lcn.limited { l with
      mask := l.mask.filter (fun j => !decide (j = i))
      counters := l.counters.set i 0
      marked := l.marked.filter (fun j => !decide (j = i)) } := by
  refine ⟨Nat.le_trans (List.length_filter_le _ _) h.maskRoom, h.mask.filter _, h.marked.filter _, h.widthCells, h.widths,
    by simp [h.counterCells], fun c hc => ?_⟩
  obtain hc | rfl := List.mem_or_eq_of_mem_set hc
  · exact h.counters c hc
  · exact Nat.zero_le _

theorem Lcn.limited.cleared {l : Lcn} (h : l.limited) :
    Lcn.limited { l with counters := List.replicate Config.cells 0, marked := [] } :=
  ⟨h.maskRoom, h.mask, ⟨.nil, nofun⟩, h.widthCells, h.widths, List.length_replicate, fun c hc => by
    rw [List.eq_of_mem_replicate hc]
    exact Nat.zero_le _⟩

theorem Rpq.reset_limited : Rpq.reset.limited :=
  ⟨⟨Nat.zero_le _, nofun⟩, Nat.zero_le _, Nat.zero_le _, Nat.zero_le _⟩

theorem diverts_reset (i : Fin 4) : Tru.reset.diverts.get i ≤ 65535 := by
  simp [Tru.reset]

theorem limited_requests : KeptByRequests State.limited where
  set x _ _ _ _ hs _ _ := afterWrite_limited x _ (hs.of_same rfl rfl rfl rfl rfl rfl rfl)
  widths _ _ _ hs _ hfit hws := hs.withLcn (hs.lcn.withWidths hfit hws)
  maskAdd _ _ hs hi hnew hroom := hs.withLcn (hs.lcn.maskAdd hi hnew hroom)
  maskDrop i _ hs := hs.withLcn (hs.lcn.maskDrop i)
  start := limited_travel.serveStart.keptBy
  pause := limited_travel.servePause.keptBy
  resume := limited_travel.serveResume.keptBy
  stop := limited_travel.serveStop.keptBy
  clear := limited_travel.serveClear.keptBy
  calib aRef := (limited_travel.serveCalib aRef).keptBy
  fetch n _ hs := hs.withRpq (hs.shipping.stocked.rpq.fetched n _)
  rearm k _ hs := hs.withRpq (hs.shipping.stocked.rpq.setOneShot k (Nat.zero_le _))
  ticket t rest s hs _ := by
    have htaken : State.limited { s with tlu := { s.tlu with tickets := rest } } :=
      hs.of_same rfl rfl rfl rfl rfl rfl rfl
    exact htaken.of_tally (waiterService_upstream _) (waiterService_stocked _ htaken.shipping.stocked)
      (waiterService_transit _)
  packClose lane s hs _ := hs.of_tally (closePack_upstream lane .host s) (hs.shipping.stocked.closePack lane .host)
    (closePack_transit lane .host s)
  target lane _ _ hs _ := targetCheck_limited lane _ (hs.of_same rfl rfl rfl rfl rfl rfl rfl)
  lotOpen _ _ _ _ hs _ := hs.of_same rfl rfl rfl rfl rfl rfl rfl
  lotClose slot s hs _ := by
    have hclosing : State.limited (setLot slot { s.tlu.lots.get slot with state := .closing } s) :=
      hs.of_same rfl rfl rfl rfl rfl rfl rfl
    exact ⟨hclosing, fun _ => hclosing.of_tally (closeLot_upstream slot _) (hclosing.shipping.stocked.closeLot slot)
      (by rw [closeLot_tru])⟩
  headClear h s hs _ := by
    have hstock := (setChannel_stock h ((s.stc.get h).release .idle) s).trans (armingCheck_stock h _)
    exact hs.of_stock hstock (hstock.stocked hs.shipping.stocked (by rw [armingCheck_rpq]; exact hs.shipping.stocked.rpq))
  reset s hs := by
    refine ⟨⟨Nat.zero_le _, Nat.zero_le _, fun _ hh => absurd hh List.not_mem_nil⟩, hs.lcn.cleared, Nat.zero_le _,
      ⟨Rpq.reset_limited, fun i => ?_, diverts_reset⟩, Nat.zero_le _⟩
    simpa [softBlocks, Tlu.soften, Pack.renew] using Pack.fresh_limited _

theorem Lcn.reset_limited : Lcn.reset.limited := by
  refine ⟨Nat.zero_le _, ⟨.nil, nofun⟩, ⟨.nil, nofun⟩, List.length_replicate, fun w hw => ?_, List.length_replicate,
    fun c hc => ?_⟩
  · rw [List.eq_of_mem_replicate hw]
    decide
  · rw [List.eq_of_mem_replicate hc]
    exact Nat.zero_le _

theorem fullReset_limited (cause : ResetCause) (strap : Bool) (s : State) : (fullReset cause strap s).limited := by
  refine ⟨⟨Nat.zero_le _, Nat.zero_le _, fun _ hh => absurd hh List.not_mem_nil⟩, Lcn.reset_limited, Nat.zero_le _,
    ⟨Rpq.reset_limited, fun i => ?_, diverts_reset⟩, Nat.zero_le _⟩
  simpa [fullReset, State.reset, Tlu.reset] using Pack.fresh_limited 1

theorem step_limited {s t : State} (hs : s.limited) (ht : step s = .next t) : t.limited :=
  step_kept (P := State.limited) ⟨fun _ _ hs => hs.of_same rfl rfl rfl rfl rfl rfl rfl,
      fun _ _ hs => hs.of_same rfl rfl rfl rfl rfl rfl rfl⟩
    limited_requests limited_events (limited_travel.encoder fun _ _ hs => hs.of_same rfl rfl rfl rfl rfl rfl rfl)
    (fun cause strap s _ => fullReset_limited cause strap s) hs ht

theorem withinCapacity_iff {s : State} : s.withinCapacity ↔
    s.limited ∧ s.cml.limited ∧ s.tlu.tickets.length ≤ 8 ∧ s.tlu.waiters.length ≤ 8 := by
  constructor
  · rintro ⟨⟨htable, hshadow, htransit⟩, hqueue, ⟨htickets, hwaiters⟩, ⟨hbuffer, hreply⟩, ⟨hmask, hwidths, hcounters⟩,
      ⟨hmaskRise, hmarkedRise⟩, ⟨hmaskCells, hmarkedCells, hwidthRange⟩, hbad, ⟨hdrops, hfull, htfull, herrors⟩, hcount,
      hhides, hlanes⟩
    exact ⟨⟨⟨htable, hshadow, hhides⟩, ⟨hmask, ⟨hmaskRise, hmaskCells⟩, ⟨hmarkedRise, hmarkedCells⟩, hwidths, hwidthRange,
      hcounters, hcount⟩, hbad, ⟨⟨hqueue, hdrops, hfull, htfull⟩, fun i => ⟨(hlanes i).2.1, (hlanes i).2.2⟩,
      fun i => (hlanes i).1⟩, htransit⟩, ⟨hbuffer, hreply, herrors⟩, htickets, hwaiters⟩
  · rintro ⟨⟨htk, lcn, hbad, ⟨rpq, packs, diverts⟩, htransit⟩, cml, htickets, hwaiters⟩
    exact ⟨⟨htk.table, htk.shadow, htransit⟩, rpq.queue, ⟨htickets, hwaiters⟩, ⟨cml.buffer, cml.reply⟩,
      ⟨lcn.maskRoom, lcn.widthCells, lcn.counterCells⟩, ⟨lcn.mask.1, lcn.marked.1⟩,
      ⟨lcn.mask.2, lcn.marked.2, lcn.widths⟩, hbad, ⟨rpq.drops, rpq.tableFull, rpq.transitFull, cml.errors⟩,
      lcn.counters, htk.hides, fun i => ⟨diverts i, (packs i).hides, (packs i).scrap⟩⟩

/-- Nobody waits twice, so at most the four packs and the four lots wait. -/
theorem waiters_length {u : Tlu} {f : Fin 4 → Nat} (h : u.Agrees f) : u.waiters.length ≤ 8 := by
  have hall : u.waiters ⊆ fours.map Waiter.pack ++ fours.map Waiter.lot := by
    intro w _
    cases w with
    | pack i => exact List.mem_append_left _ (List.mem_map.2 ⟨i, mem_fours i, rfl⟩)
    | lot i => exact List.mem_append_right _ (List.mem_map.2 ⟨i, mem_fours i, rfl⟩)
  exact (h.nodup.subperm hall).length_le

/-- Settles O57: each block's limits are kept by its own operations, and the store's and the waiter list's follow from
the accounts of the tally. -/
theorem stepKeepsCapacities : Obligations.StepKeepsCapacities := fun s t htally hcap ht => by
  obtain ⟨hlimited, hcml, -, -⟩ := withinCapacity_iff.1 hcap
  have hagrees := step_tallied (tallyAgrees_iff.1 htally) ht
  exact withinCapacity_iff.2
    ⟨step_limited hlimited ht, step_cml_limited hcml ht, hagrees.stored, waiters_length hagrees⟩

end Sys2Proof.Machine

/-! Resets (chapters 1 to 13, the tables of reset values), the state after them, and the inputs and timers that a single
case of the model answers. -/

namespace Sys2Proof.Machine

/-! ### Resets (R179, R190 to R193, R203) -/

theorem fullReset_self : fullReset .powerUp false State.reset = State.reset := rfl

/-- Settles O53: each invariant from the fact that a full reset meets it. -/
theorem resetStateIsSound : Obligations.ResetStateIsSound := by
  have hmarks := fullReset_marksAgree .powerUp false State.reset
  have hlimited := fullReset_limited .powerUp false State.reset
  have htagged := fullReset_tagged .powerUp false State.reset
  have htallied := fullReset_tallied .powerUp false State.reset
  rw [fullReset_self] at hmarks hlimited htagged htallied
  have hcml : State.reset.cml.limited := ⟨Nat.zero_le _, rfl, Nat.zero_le _⟩
  exact ⟨settings_reset_valid, hmarks, (by decide : (0#32 - 0#32).toNat < 2 ^ 31),
    withinCapacity_iff.2 ⟨hlimited, hcml, Nat.zero_le _, Nat.zero_le _⟩, htagged.distinct,
    channelsPaired_iff.2 paired_reset, tallyAgrees_iff.2 htallied⟩

/-- A pack renewed is the next one, numbered from 1 again after 65535 (R143). -/
theorem Pack.renew_eq (p : Pack) :
    p.renew = ⟨if p.number < 65535 then p.number + 1 else 1, 0, 0, 0, 0, .opened, none⟩ := by
  unfold Pack.renew nextPackNumber Pack.fresh
  by_cases h : p.number < 65535
  · rw [if_pos h, if_neg (Nat.not_le.2 h)]
  · rw [if_neg h, if_pos (Nat.not_lt.1 h)]

/-- Settles O51: the soft reset block by block, with the request in hand. -/
theorem resetIsTheSoftReset : Obligations.ResetIsTheSoftReset := by
  intro tag s h
  refine receive_answers h (r := .reset) ?_
  simp only [serve, softReset, softBlocks, Tlu.soften, Quad.map, Pack.renew_eq]
  rfl

/-- While the reset input is asserted every command but a level, a reset and its release is no event (R203). -/
theorem exec_asserted {s : State} (h : s.pins.resetAsserted = true) {c : Instr} (hstep : ∀ a b, c ≠ .encoderStep a b)
    (hassert : c ≠ .beltRunAssert) (hdeassert : c ≠ .beltRunDeassert) (hrelease : c ≠ .resetInputRelease)
    (hreset : ∀ k l, c ≠ .fullReset k l) : exec c s = .next s := by
  cases c with
  | encoderStep a b => exact absurd rfl (hstep a b)
  | beltRunAssert => exact absurd rfl hassert
  | beltRunDeassert => exact absurd rfl hdeassert
  | resetInputRelease => exact absurd rfl hrelease
  | fullReset k l => exact absurd rfl (hreset k l)
  | _ => exact unlessReset_asserted h _

/-- Settles O52: the reset values are those the model writes out, and the levels are all that an asserted reset input
lets through. -/
theorem fullResetAndTheResetInput : Obligations.FullResetAndTheResetInput := by
  intro cause strap s
  refine ⟨rfl, rfl, fun h => ⟨fun a b => ?_, ?_, ?_, fun c => exec_asserted h⟩⟩
  · exact congrArg Host.Outcome.next (if_pos h)
  · exact congrArg Host.Outcome.next (if_pos h)
  · exact congrArg Host.Outcome.next (if_pos h)

/-! ### The belt-run input (R10) -/

theorem freshStallTimer_asserted (m : Mode) (time : Nat) : freshStallTimer m true time =
    if m = .run ∨ m = .pause ∨ m = .calibrate then some time else none := by
  cases m <;> rfl

/-- Settles O6: the assertion of a level that stands is no change, and the timer is started afresh or stopped. -/
theorem beltRunStartsAndStopsTheStallTimer : Obligations.BeltRunStartsAndStopsTheStallTimer := by
  intro s hrel
  have hassert : exec .beltRunAssert s = .next (beltRunAsserts s) :=
    congrArg Host.Outcome.next (if_neg (by simp [hrel]))
  have hdeassert : exec .beltRunDeassert s = .next (beltRunDeasserts s) :=
    congrArg Host.Outcome.next (if_neg (by simp [hrel]))
  rw [hassert, hdeassert, ← freshStallTimer_asserted]
  exact ⟨fun h => congrArg _ (if_neg (by simp [h])), fun h => congrArg _ (if_pos h), rfl⟩

/-! ### The lane outputs (R134, R150) -/

/-- Settles O32: a running timer ends its pulse, a stopped one does nothing. -/
theorem pulsesEnd : Obligations.PulsesEnd := by
  intro lane s hrel
  have hgate : exec (.gatePulseTimerExpiry lane) s = .next (gatePulseExpires lane s) := unlessReset_released hrel _
  have hchange : exec (.packChangeTimerExpiry lane) s = .next (packChangeExpires lane s) := unlessReset_released hrel _
  rw [hgate, hchange]
  exact ⟨fun h => congrArg _ (if_pos h), fun h => congrArg _ (if_neg (by simp [h])), fun h => congrArg _ (if_pos h),
    fun h => congrArg _ (if_neg (by simp [h]))⟩

/-! ### The fate at drop (R133, R136, R137) -/

theorem Flag.only_eq_twoPow (f : Flag) : f.only = BitVec.twoPow 16 f.bit := by
  cases f <;> rfl

theorem Flag.only_ne_zero (f : Flag) : f.only ≠ 0#16 := by
  cases f <;> decide

/-- A set holds a flag exactly when it meets the flag's bit. -/
theorem hasFlag_iff (fs : FlagSet) (f : Flag) : hasFlag fs f = true ↔ fs &&& f.only ≠ 0#16 := by
  have hne := f.only_ne_zero
  rw [Flag.only_eq_twoPow] at hne ⊢
  rw [BitVec.and_twoPow, hasFlag]
  cases fs.getLsbD f.bit <;> simp [hne]

/-- Settles O30: the branches of the decision in their order. -/
theorem fateAtDrop : Obligations.FateAtDrop := by
  intro lane flags s gate ref small named room
  have href : hasFlag flags .ref = true ↔ ref := hasFlag_iff flags .ref
  have hsmall : hasFlag flags .small = true ↔ small := hasFlag_iff flags .small
  have hnamed : sharesFlag flags (s.settings.divertMask.get lane) = true ↔ named := decide_eq_true_iff
  have hroom : packHasRoom lane s = true ↔ room := decide_eq_true_iff
  have hfate : decideFate lane flags s =
      if gate ∧ (ref ∨ named) then (.divert, flags)
      else if small ∨ ref then (.scrap, flags)
      else if room then (.pack, flags)
      else (if gate then .divert else .none, flags ||| 0x1000#16) := by
    simp only [decideFate, href, hsmall, hnamed, hroom]
    rfl
  rw [hfate]
  refine ⟨fun hg hn => if_pos ⟨hg, hn⟩, fun hn hs => ?_, fun hn hs hr hp => ?_, fun hn hs hr hp hg => ?_,
    fun hs hr hp hg => ?_⟩
  · rw [if_neg hn, if_pos hs]
  · rw [if_neg (by tauto), if_neg (by tauto), if_pos hp]
  · rw [if_neg (by tauto), if_neg (by tauto), if_neg hp, if_pos hg]
  · rw [if_neg (by tauto), if_neg (by tauto), if_neg hp, if_neg hg]

end Sys2Proof.Machine

/-! The requests of the Line Conditioner and of the Mode Controller that hand on no hide, and STATUS. Each row of their
tables is one fact about what serves the request, in any state; `receive_answers` makes it a fact about the command. -/

namespace Sys2Proof.Machine

/-! ### Widths (R19, R20) -/

theorem length_overwrite {l ws : List Nat} {k : Nat} (hfit : k + ws.length ≤ l.length) :
    (l.take k ++ ws ++ l.drop (k + ws.length)).length = l.length := by
  simp only [List.length_append, List.length_take, List.length_drop]
  omega

/-- A stretch of a list written over. -/
theorem getD_overwrite {l ws : List Nat} {k : Nat} (hfit : k + ws.length ≤ l.length) (i : Nat) :
    (l.take k ++ ws ++ l.drop (k + ws.length)).getD i 0 =
      if k ≤ i ∧ i < k + ws.length then ws.getD (i - k) 0 else l.getD i 0 := by
  have hk : (l.take k).length = k := by simp; omega
  simp only [List.getD_eq_getElem?_getD]
  obtain hlow | ⟨hlow, hhigh⟩ | hhigh : i < k ∨ (k ≤ i ∧ i < k + ws.length) ∨ k + ws.length ≤ i := by omega
  · rw [if_neg (by omega), List.append_assoc, List.getElem?_append_left (by omega), List.getElem?_take_of_lt hlow]
  · rw [if_pos ⟨hlow, hhigh⟩, List.append_assoc, List.getElem?_append_right (by omega), hk,
      List.getElem?_append_left (by omega)]
  · have hlen : (l.take k ++ ws).length = k + ws.length := by simp; omega
    rw [if_neg (by omega), List.getElem?_append_right (by omega), hlen, List.getElem?_drop]
    congr 2
    omega

/-- A stretch of a list read off place by place. -/
theorem take_drop_eq_map_range {l : List Nat} {k n : Nat} (hfit : k + n ≤ l.length) :
    (l.drop k).take n = (List.range n).map (fun j => l.getD (k + j) 0) := by
  refine List.ext_getElem (by simp; omega) fun j hj _ => ?_
  simp only [List.length_take, List.length_drop] at hj
  simp only [List.getElem_take, List.getElem_drop, List.getElem_map, List.getElem_range]
  rw [List.getD_eq_getElem _ _ (by omega)]

theorem exec_widthsRead (tag : Byte) (start : BitVec 16) (count : Byte) (s : State) :
    exec (.widthsRead tag start count) s = unlessReset s (receive ⟨tag, .widthsRead start count⟩) := rfl

/-- A list of 1 to 60 widths is a WIDTHS LOAD (R205). -/
theorem exec_widthsLoad {widths : List (BitVec 16)} (hlow : 1 ≤ widths.length) (hhigh : widths.length ≤ 60) (tag : Byte)
    (start : BitVec 16) (s : State) :
    exec (.widthsLoad tag start widths) s = unlessReset s (receive ⟨tag, .widthsLoad start widths⟩) := by
  have hkind : (if 1 ≤ widths.length ∧ widths.length ≤ 60 then Request.widthsLoad start widths
      else .badFormat 0x04#8) = .widthsLoad start widths := if_pos ⟨hlow, hhigh⟩
  rw [← hkind]
  rfl

theorem idleNoHide_iff (s : State) : idleNoHide s = true ↔ s.mdc.mode = .idle ∧ s.htk.table = [] := by
  simp [idleNoHide]

/-- The widths fit the line and lie in their range (R18, R19). -/
def widthsFit (start : BitVec 16) (widths : List (BitVec 16)) : Prop :=
  start.toNat + widths.length ≤ 1024 ∧ ∀ w ∈ widths, 1000 ≤ w.toNat ∧ w.toNat ≤ 8000

section WidthsLoad
variable {start : BitVec 16} {widths : List (BitVec 16)} {s : State}

theorem serveWidthsLoad_busy (h : ¬(s.mdc.mode = .idle ∧ s.htk.table = [])) :
    serveWidthsLoad start widths s = (s, .refuse .busy) :=
  if_pos (by rw [← idleNoHide_iff] at h; simpa using h)

theorem serveWidthsLoad_fit (hidle : s.mdc.mode = .idle ∧ s.htk.table = []) (hfit : widthsFit start widths) :
    serveWidthsLoad start widths s = ({ s with lcn := { s.lcn with
      widths := s.lcn.widths.take start.toNat ++ widths.map (fun w => w.toNat)
        ++ s.lcn.widths.drop (start.toNat + (widths.map (fun w => w.toNat)).length) } }, .ok []) := by
  unfold serveWidthsLoad
  simp only
  rw [if_neg (by rw [(idleNoHide_iff s).2 hidle]; nofun), if_pos]
  refine ⟨by rw [List.length_map]; exact hfit.1, ?_⟩
  simpa using hfit.2

theorem serveWidthsLoad_unfit (hidle : s.mdc.mode = .idle ∧ s.htk.table = []) (hfit : ¬widthsFit start widths) :
    serveWidthsLoad start widths s = (s, .refuse .range) := by
  unfold serveWidthsLoad
  simp only
  rw [if_neg (by rw [(idleNoHide_iff s).2 hidle]; nofun), if_neg]
  rintro ⟨hline, hrange⟩
  exact hfit ⟨by rwa [List.length_map] at hline, by simpa using hrange⟩

end WidthsLoad

/-- Settles O12: the cases of WIDTHS LOAD and of WIDTHS READ, the stretch written and read place by place. -/
theorem widthsLoadAndRead : Obligations.WidthsLoadAndRead := by
  intro tag start widths count s h
  refine ⟨fun hlow hhigh => ?_, fun hfit hlen => ?_, fun hfit => receive_answers h (if_neg hfit)⟩
  · rw [exec_widthsLoad hlow hhigh]
    refine ⟨fun hmode htable hfit hlen => ?_, fun hbusy => receive_answers h (serveWidthsLoad_busy hbusy),
      fun hmode htable hfit => receive_answers h (serveWidthsLoad_unfit ⟨hmode, htable⟩ hfit)⟩
    have hroom : start.toNat + (widths.map (fun w => w.toNat)).length ≤ s.lcn.widths.length := by
      rw [List.length_map, hlen]
      exact hfit.1
    refine ⟨_, receive_answers h (serveWidthsLoad_fit ⟨hmode, htable⟩ hfit), (length_overwrite hroom).trans hlen,
      fun i _ => ?_⟩
    have hwidth : (widths.map (fun w => w.toNat)).getD (i - start.toNat) 0 = (widths.getD (i - start.toNat) 0).toNat :=
      List.getD_map widths (0 : BitVec 16) (fun w : BitVec 16 => w.toNat)
    refine (getD_overwrite hroom i).trans ?_
    rw [List.length_map, hwidth]
  · refine receive_answers h ((if_pos hfit).trans ?_)
    have hstretch : ((s.lcn.widths.drop start.toNat).take count.toNat).flatMap (field 2)
        = (List.range count.toNat).flatMap (fun k => field 2 (s.lcn.widths.getD (start.toNat + k) 0)) := by
      rw [take_drop_eq_map_range (by rw [hlen]; exact hfit.2.2), List.flatMap_map]
    rw [← hstretch]
    rfl

/-! ### Masks (R23, R24, R33) -/

section Masks
variable {cell : BitVec 16} {s : State}

theorem serveMaskAdd_busy (h : s.mdc.mode ≠ .idle) : serveMaskAdd cell s = (s, .refuse .busy) := if_pos h

theorem serveMaskDrop_busy (h : s.mdc.mode ≠ .idle) : serveMaskDrop cell s = (s, .refuse .busy) := if_pos h

theorem serveMaskAdd_above (h : s.mdc.mode = .idle) (hcell : 1023 < cell.toNat) :
    serveMaskAdd cell s = (s, .refuse .range) :=
  (if_neg (not_not_intro h)).trans (if_pos hcell)

theorem serveMaskDrop_above (h : s.mdc.mode = .idle) (hcell : 1023 < cell.toNat) :
    serveMaskDrop cell s = (s, .refuse .range) :=
  (if_neg (not_not_intro h)).trans (if_pos hcell)

theorem serveMaskAdd_listed (h : s.mdc.mode = .idle) (hcell : cell.toNat ≤ 1023) (hin : cell.toNat ∈ s.lcn.mask) :
    serveMaskAdd cell s = (s, .ok []) :=
  (if_neg (not_not_intro h)).trans ((if_neg (by simp only [Config.cells]; omega)).trans (if_pos hin))

theorem serveMaskDrop_listed (h : s.mdc.mode = .idle) (hcell : cell.toNat ≤ 1023) (hin : cell.toNat ∈ s.lcn.mask) :
    serveMaskDrop cell s = ({ s with lcn := { s.lcn with
      mask := s.lcn.mask.filter (fun j => !decide (j = cell.toNat))
      counters := s.lcn.counters.set cell.toNat 0
      marked := s.lcn.marked.filter (fun j => !decide (j = cell.toNat)) } }, .ok []) :=
  (if_neg (not_not_intro h)).trans ((if_neg (by simp only [Config.cells]; omega)).trans (if_pos hin))

theorem serveMaskDrop_unlisted (h : s.mdc.mode = .idle) (hcell : cell.toNat ≤ 1023) (hout : cell.toNat ∉ s.lcn.mask) :
    serveMaskDrop cell s = (s, .refuse .notFound) :=
  (if_neg (not_not_intro h)).trans ((if_neg (by simp only [Config.cells]; omega)).trans (if_neg hout))

theorem serveMaskAdd_full (h : s.mdc.mode = .idle) (hcell : cell.toNat ≤ 1023) (hout : cell.toNat ∉ s.lcn.mask)
    (hfull : 32 ≤ s.lcn.mask.length) : serveMaskAdd cell s = (s, .refuse .full) :=
  (if_neg (not_not_intro h)).trans ((if_neg (by simp only [Config.cells]; omega)).trans
    ((if_neg hout).trans (if_pos hfull)))

theorem serveMaskAdd_room (h : s.mdc.mode = .idle) (hcell : cell.toNat ≤ 1023) (hout : cell.toNat ∉ s.lcn.mask)
    (hroom : s.lcn.mask.length < 32) : serveMaskAdd cell s =
      ({ s with lcn := { s.lcn with mask := insertIndex cell.toNat s.lcn.mask } }, .ok []) :=
  (if_neg (not_not_intro h)).trans ((if_neg (by simp only [Config.cells]; omega)).trans
    ((if_neg hout).trans (if_neg (Nat.not_le.2 hroom))))

end Masks

theorem exec_maskAdd (tag : Byte) (cell : BitVec 16) (s : State) :
    exec (.maskAdd tag cell) s = unlessReset s (receive ⟨tag, .maskAdd cell⟩) := rfl

theorem exec_maskDrop (tag : Byte) (cell : BitVec 16) (s : State) :
    exec (.maskDrop tag cell) s = unlessReset s (receive ⟨tag, .maskDrop cell⟩) := rfl

/-- Settles O13: the rows of the tables of R23 and R24 in their order. -/
theorem maskRequests : Obligations.MaskRequests := by
  intro tag cell s h
  have hfilter (l : List Nat) : l.filter (fun j => decide (j ≠ cell.toNat))
      = l.filter (fun j => !decide (j = cell.toNat)) := by simp only [ne_eq, decide_not]
  rw [exec_maskAdd, exec_maskDrop, hfilter, hfilter]
  refine ⟨fun hmode => ⟨receive_answers h (serveMaskAdd_busy hmode), receive_answers h (serveMaskDrop_busy hmode)⟩,
    fun hmode hcell => ⟨receive_answers h (serveMaskAdd_above hmode hcell),
      receive_answers h (serveMaskDrop_above hmode hcell)⟩,
    fun hmode hcell hin => ⟨receive_answers h (serveMaskAdd_listed hmode hcell hin),
      receive_answers h (serveMaskDrop_listed hmode hcell hin)⟩,
    fun hmode hcell hout => ⟨receive_answers h (serveMaskDrop_unlisted hmode hcell hout),
      fun hfull => receive_answers h (serveMaskAdd_full hmode hcell hout hfull),
      fun hroom hrise => ⟨_, receive_answers h (serveMaskAdd_room hmode hcell hout hroom),
        pairwise_insertIndex hrise hout, fun j => mem_insertBy id cell.toNat j s.lcn.mask⟩⟩,
    receive_answers h rfl⟩

/-! ### The Mode Controller (R78, R169, R170, R172, R174) -/

theorem stop_unwatched {s : State} (h : s.mdc.mode = .idle ∨ s.mdc.mode = .fault) :
    serveStop s = (s, .refuse .busy) := by
  refine if_neg ?_
  obtain h | h := h <;> rw [h] <;> nofun

/-- Settles O38: START, RESUME and CLEAR from their states, and every request refused in the others. -/
theorem startResumeClearAndBusy : Obligations.StartResumeClearAndBusy := by
  constructor
  · intro tag s h
    refine ⟨fun hmode => receive_answers h ((if_pos hmode).trans ?_),
      fun g hmode hgrid => receive_answers h ((if_pos hmode).trans ?_),
      fun hmode => receive_answers h ((if_pos hmode).trans ?_)⟩
    · rw [← hmode]
      rfl
    · have hline : nextLineNumber (s.inHand ⟨tag, .resume⟩) = g.nextLine := by
        simp only [nextLineNumber, State.inHand, hgrid]
      unfold gridRestart
      simp only
      rw [hline, ← hmode]
      rfl
    · rw [← hmode]
      rfl
  · intro tag s h
    exact ⟨fun hmode => receive_answers h (if_neg hmode), fun hmode => receive_answers h (if_neg hmode),
      fun hmode => receive_answers h (if_neg hmode), fun hmode => receive_answers h (stop_unwatched hmode),
      fun hmode => receive_answers h (if_neg hmode)⟩

/-- Settles O39: the rows of the table of R78 in their order, and the entry of CALIBRATE. -/
theorem calibEntersCalibrate : Obligations.CalibEntersCalibrate := by
  intro tag aRef s h next
  refine ⟨fun hmode => receive_answers h (if_pos hmode),
    fun hmode hrange => receive_answers h ((if_neg (not_not_intro hmode)).trans (if_neg hrange)),
    fun hmode hlow hhigh => receive_answers h ((if_neg (not_not_intro hmode)).trans ((if_pos ⟨hlow, hhigh⟩).trans ?_))⟩
  rw [← hmode]
  rfl

/-! ### STATUS (R191, R206) -/

theorem field_one {n : Nat} (h : n < 256) : field 1 n = [BitVec.ofNat 8 n] := if_pos h

theorem field_two {n : Nat} (h : n < 65536) : field 2 n = [BitVec.ofNat 8 (n / 256), BitVec.ofNat 8 n] := if_pos h

/-- Settles O45: each count fits its field, and the fields stand in the order of R206. -/
theorem statusReportsTheState : Obligations.StatusReportsTheState := by
  intro tag s h hcap hmarked byte word mark
  refine ⟨_, receive_answers (s' := s) (a := .ok (statusBytes (s.inHand ⟨tag, .status⟩))) h rfl, ?_⟩
  obtain ⟨⟨htable, hshadow, htransit⟩, ⟨hqueue, -⟩, ⟨htickets, hwaiters⟩, -, -, -, -, -,
    ⟨hdrops, hfull, htfull, herrors⟩, -⟩ := hcap
  have hmark (m : OneShot) : oneShotBytes m = mark m.armed ++ field 2 m.count := by
    unfold oneShotBytes boolCode
    cases m.armed <;> rfl
  have hdata : statusBytes (s.inHand ⟨tag, .status⟩) = [s.mdc.mode.code, s.mdc.cause.code] ++ bytes32 s.tcu.position
      ++ bytes32 s.tcu.hwm ++ [s.tcu.direction.code] ++ byte s.htk.table.length ++ byte s.htk.shadow.length
      ++ byte s.tru.transit.length ++ byte s.rpq.queue.length ++ word s.rpq.dropCount
      ++ byte s.tlu.tickets.length ++ byte s.tlu.waiters.length
      ++ [(s.stc.get 0).state.code, (s.stc.get 1).state.code, (s.stc.get 2).state.code, (s.stc.get 3).state.code]
      ++ word s.cml.linkErrors ++ mark s.rpq.tableFull.armed ++ word s.rpq.tableFull.count
      ++ mark s.rpq.transitFull.armed ++ word s.rpq.transitFull.count ++ word s.lcn.marked.length := by
    simp only [statusBytes, State.inHand, hmark]
    rw [field_one (by omega : s.htk.table.length < 256), field_one (by omega : s.htk.shadow.length < 256),
      field_one (by omega : s.tru.transit.length < 256), field_one (by omega : s.rpq.queue.length < 256),
      field_two (by omega : s.rpq.dropCount < 65536), field_one (by omega : s.tlu.tickets.length < 256),
      field_one (by omega : s.tlu.waiters.length < 256), field_two (by omega : s.cml.linkErrors < 65536),
      field_two (by omega : s.rpq.tableFull.count < 65536), field_two (by omega : s.rpq.transitFull.count < 65536),
      field_two (by omega : s.lcn.marked.length < 65536)]
    simp only [List.append_assoc]
    rfl
  refine ⟨hdata, ?_⟩
  rw [hdata]
  have hlen (b : Bool) : (mark b).length = 1 := by cases b <;> rfl
  simp only [List.length_append, hlen]
  rfl

end Sys2Proof.Machine

/-! Closes of packs and lots, targets and tickets (chapter 9). What a close leaves is written out once; each row of the
tables of PACK CLOSE, PACK TARGET, LOT CLOSE and TICKET is one fact about what serves the request. -/

namespace Sys2Proof.Machine

/-- An operation that neither reads nor writes the Command Link acts alike with a request in hand. -/
theorem FreeOfLink.inHand {f : State → State} (hf : FreeOfLink f) {s : State} (hcml : (f s).cml = s.cml)
    (t : Telegram) : f (s.inHand t) = (f s).inHand t := by
  refine (hf { s.cml with buffer := [t] } s).trans ?_
  rw [State.inHand, hcml]
  rfl

/-! ### Packs (R143, R147, R148, R152) -/

/-- A pack's ticket stored, the pack renewed (R143, R147, R150, R165). -/
theorem storePackTicket_eq (l : Fin 4) (cause : CloseCause) (overrun : Bool) (s : State) :
    storePackTicket l cause overrun s = { s with
      tlu := { s.tlu with
        tickets := s.tlu.tickets ++ [packTicket l cause overrun (s.tru.diverts.get l) (s.tlu.packs.get l)]
        changeLine := s.tlu.changeLine.set l true
        changeTimer := s.tlu.changeTimer.set l true
        packs := s.tlu.packs.set l
          ⟨if (s.tlu.packs.get l).number < 65535 then (s.tlu.packs.get l).number + 1 else 1, 0, 0, 0, 0, .opened, none⟩ }
      tru := { s.tru with diverts := s.tru.diverts.set l 0 }
      rpq := s.rpq.offer s.settings
        (.ticket (packTicket l cause overrun (s.tru.diverts.get l) (s.tlu.packs.get l))) } := by
  rw [← Pack.renew_eq]
  rfl

theorem closePack_room {s : State} (h : s.tlu.tickets.length < 8) (l : Fin 4) (cause : CloseCause) :
    closePack l cause s = storePackTicket l cause false s := by
  obtain ⟨-, he⟩ | ⟨hfull, -⟩ := closePack_cases l cause s
  · exact he
  · omega

theorem closePack_full {s : State} (h : 8 ≤ s.tlu.tickets.length) (l : Fin 4) (cause : CloseCause) :
    closePack l cause s = packEntersWait l cause s := by
  obtain ⟨hroom, -⟩ | ⟨-, he⟩ := closePack_cases l cause s
  · omega
  · exact he

/-- A pack that closes with the store full waits last (R148, R165). -/
theorem packEntersWait_eq (l : Fin 4) (cause : CloseCause) (s : State) : packEntersWait l cause s = { s with
      tlu := { s.tlu with
        packs := s.tlu.packs.set l { s.tlu.packs.get l with state := .wait, cause := some cause }
        waiters := s.tlu.waiters ++ [Waiter.pack l]
        holdLine := s.tlu.holdLine.set l true }
      rpq := s.rpq.offer s.settings (.packWait l (s.tlu.packs.get l).number (s.tlu.packs.get l).hides
        (s.tlu.packs.get l).units cause (s.tlu.waiters.length + 1)) } := by
  have hcount : (s.tlu.waiters ++ [Waiter.pack l]).length = s.tlu.waiters.length + 1 := List.length_append
  simp only [packEntersWait, hcount]
  rfl

theorem closeOutcome_room {s : State} (h : s.tlu.tickets.length < 8) : closeOutcome s = .stored :=
  if_pos (decide_eq_true h)

theorem closeOutcome_full {s : State} (h : 8 ≤ s.tlu.tickets.length) : closeOutcome s = .wait :=
  if_neg (by rw [Tlu.hasRoom, decide_eq_true_iff]; exact Nat.not_lt.2 h)

section PackClose
variable {lane : Byte} {l : Fin 4} {s : State}

theorem servePackClose_above (h : placeOf lane = none) : servePackClose lane s = (s, .refuse .range) := by
  simp only [servePackClose, h]

theorem servePackClose_empty (h : placeOf lane = some l) (hhides : (s.tlu.packs.get l).hides = 0) :
    servePackClose lane s = (s, .refuse .empty) := by
  simp only [servePackClose, h]
  exact if_pos hhides

theorem servePackClose_waits (h : placeOf lane = some l) (hhides : (s.tlu.packs.get l).hides ≠ 0)
    (hstate : (s.tlu.packs.get l).state = .wait) : servePackClose lane s = (s, .refuse .busy) := by
  simp only [servePackClose, h]
  rw [if_neg hhides, if_pos hstate]

theorem servePackClose_open (h : placeOf lane = some l) (hhides : (s.tlu.packs.get l).hides ≠ 0)
    (hstate : (s.tlu.packs.get l).state = .opened) : servePackClose lane s =
      (closePack l .host s, .ok ([lane] ++ field 2 (s.tlu.packs.get l).number ++ [(closeOutcome s).packCode])) := by
  simp only [servePackClose, h]
  rw [if_neg hhides, if_neg (by rw [hstate]; nofun)]

end PackClose

theorem exec_packClose (tag lane : Byte) (s : State) :
    exec (.packClose tag lane) s = unlessReset s (receive ⟨tag, .packClose lane⟩) := rfl

/-- Settles O33: what a close leaves with room and without, and the rows of the table of R152 in their order. -/
theorem packClose : Obligations.PackClose := by
  refine ⟨fun l cause s => ⟨fun hroom => ?_, fun hfull => ?_⟩, fun tag lane s h => ?_⟩
  · rw [closePack_room hroom, storePackTicket_eq]
    rfl
  · rw [closePack_full hfull, packEntersWait_eq]
  · rw [exec_packClose]
    refine ⟨fun habove => receive_answers h (servePackClose_above (placeOf_above habove)), fun l hl => ?_⟩
    have hplace := placeOf_of_toNat_eq hl
    refine ⟨fun hhides => receive_answers h (servePackClose_empty hplace hhides),
      fun hhides hstate => receive_answers h (servePackClose_waits hplace hhides hstate),
      fun hhides hstate hroom => receive_answers h
        ((servePackClose_open (s := s.inHand ⟨tag, .packClose lane⟩) hplace hhides hstate).trans ?_),
      fun hhides hstate hfull => receive_answers h
        ((servePackClose_open (s := s.inHand ⟨tag, .packClose lane⟩) hplace hhides hstate).trans ?_)⟩
    · rw [closePack_room (s := s.inHand _) hroom, storePackTicket_eq, closeOutcome_room (s := s.inHand _) hroom]
      rfl
    · rw [closePack_full (s := s.inHand _) hfull, packEntersWait_eq, closeOutcome_full (s := s.inHand _) hfull]
      rfl

/-! ### Targets (R145, R153) -/

section PackTarget
variable {lane mode : Byte} {value : BitVec 32} {l : Fin 4} {m : TargetMode} {s : State}

theorem servePackTarget_above (h : placeOf lane = none) : servePackTarget lane mode value s = (s, .refuse .range) := by
  simp only [servePackTarget, h]

theorem servePackTarget_noMode (h : targetModeOf mode.toNat = none) :
    servePackTarget lane mode value s = (s, .refuse .range) := by
  unfold servePackTarget
  split
  · rename_i hm
    rw [h] at hm
    exact absurd hm nofun
  · rfl

theorem servePackTarget_unfit (h : targetModeOf mode.toNat = some m) (hrange : targetInRange m value.toNat = false) :
    servePackTarget lane mode value s = (s, .refuse .range) := by
  unfold servePackTarget
  split
  · rename_i hm
    rw [← Option.some.inj (h.symm.trans hm)]
    exact if_neg (by rw [hrange]; nofun)
  · rfl

theorem servePackTarget_fits (hplace : placeOf lane = some l) (h : targetModeOf mode.toNat = some m)
    (hrange : targetInRange m value.toNat = true) : servePackTarget lane mode value s =
      (writeTarget l (heldTarget m value.toNat) s, .ok (targetReport l (heldTarget m value.toNat) s)) := by
  simp only [servePackTarget, hplace, h]
  exact if_pos hrange

end PackTarget

/-- The state with a lane's target written. -/
def State.withTarget (l : Fin 4) (t : Target) (s : State) : State :=
  { s with settings := { s.settings with target := s.settings.target.set l t } }

theorem targetMet_withTarget (l : Fin 4) (t : Target) (s : State) : targetMet l (s.withTarget l t) = true ↔
    (s.tlu.packs.get l).state = .opened ∧ (s.tlu.packs.get l).meets t = true := by
  simp only [targetMet, State.withTarget, Quad.get_set_same, Bool.and_eq_true]
  exact and_congr decide_eq_true_iff Iff.rfl

/-- A target that an OPEN pack meets closes it (R145, R153). -/
theorem writeTarget_met {l : Fin 4} {t : Target} {s : State}
    (h : (s.tlu.packs.get l).state = .opened ∧ (s.tlu.packs.get l).meets t = true) :
    writeTarget l t s = closePack l .target (s.withTarget l t)
    ∧ targetReport l t s = field 2 (s.tlu.packs.get l).number
      ++ [if s.tlu.tickets.length < 8 then 0#8 else 1#8] := by
  refine ⟨if_pos ((targetMet_withTarget l t s).2 h), (if_pos h).trans ?_⟩
  by_cases hroom : s.tlu.tickets.length < 8
  · rw [closeOutcome_room hroom, if_pos hroom]
    rfl
  · rw [closeOutcome_full (Nat.not_lt.1 hroom), if_neg hroom]
    rfl

/-- Any other target is written, and no pack closes (R153). -/
theorem writeTarget_unmet {l : Fin 4} {t : Target} {s : State}
    (h : ¬((s.tlu.packs.get l).state = .opened ∧ (s.tlu.packs.get l).meets t = true)) :
    writeTarget l t s = s.withTarget l t ∧ targetReport l t s = [0#8, 0#8, 0xFF#8] :=
  ⟨if_neg (by rwa [← targetMet_withTarget] at h), if_neg h⟩

theorem closePack_inHand (l : Fin 4) (cause : CloseCause) (s : State) (t : Telegram) :
    closePack l cause (s.inHand t) = (closePack l cause s).inHand t :=
  (closePack_link l cause).inHand (closePack_upstream l cause s).cml t

theorem exec_packTarget (tag lane mode : Byte) (value : BitVec 32) (s : State) :
    exec (.packTarget tag lane mode value) s = unlessReset s (receive ⟨tag, .packTarget lane mode value⟩) := rfl

/-- What a mode byte and a value name (R145, R204): a mode whose range the value meets or not, or no mode. -/
theorem targetModeOf_cases (mode : Byte) :
    (mode = 0#8 ∧ targetModeOf mode.toNat = some .count) ∨ (mode = 1#8 ∧ targetModeOf mode.toNat = some .area)
    ∨ (mode = 2#8 ∧ targetModeOf mode.toNat = some .none)
    ∨ (mode ≠ 0#8 ∧ mode ≠ 1#8 ∧ mode ≠ 2#8 ∧ targetModeOf mode.toNat = none) := by
  by_cases h0 : mode = 0#8
  · exact .inl ⟨h0, by rw [h0]; rfl⟩
  by_cases h1 : mode = 1#8
  · exact .inr (.inl ⟨h1, by rw [h1]; rfl⟩)
  by_cases h2 : mode = 2#8
  · exact .inr (.inr (.inl ⟨h2, by rw [h2]; rfl⟩))
  have hnone : targetModeOf mode.toNat = none := by
    unfold targetModeOf
    split
    · exact absurd (BitVec.eq_of_toNat_eq ‹_›) h0
    · exact absurd (BitVec.eq_of_toNat_eq ‹_›) h1
    · exact absurd (BitVec.eq_of_toNat_eq ‹_›) h2
    · rfl
  exact .inr (.inr (.inr ⟨h0, h1, h2, hnone⟩))

/-- The range of a target's value under its mode byte (R145). -/
def TargetFits (mode : Byte) (v : Nat) : Prop :=
  (mode = 0#8 ∧ 1 ≤ v ∧ v ≤ 999) ∨ (mode = 1#8 ∧ 1 ≤ v ∧ v ≤ 9999999) ∨ mode = 2#8

/-- The target a mode byte and a value set (R145). -/
def targetNamed (mode : Byte) (v : Nat) : Target :=
  if mode = 0#8 then ⟨.count, v⟩ else if mode = 1#8 then ⟨.area, v⟩ else ⟨.none, 0⟩

/-- A pack meets the target a mode byte and a value set. -/
def MeetsNamed (mode : Byte) (v : Nat) (p : Pack) : Prop :=
  (mode = 0#8 ∧ v ≤ p.hides) ∨ (mode = 1#8 ∧ v ≤ p.units)

theorem targetModeOf_fits {mode : Byte} {v : Nat} (h : TargetFits mode v) : ∃ m, targetModeOf mode.toNat = some m
    ∧ targetInRange m v = true ∧ heldTarget m v = targetNamed mode v
    ∧ ∀ p : Pack, p.meets (targetNamed mode v) = true ↔ MeetsNamed mode v p := by
  obtain ⟨rfl, hv⟩ | ⟨rfl, hv⟩ | rfl := h
  · exact ⟨.count, rfl, decide_eq_true hv, rfl, fun p => by simp [targetNamed, MeetsNamed, Pack.meets]⟩
  · exact ⟨.area, rfl, decide_eq_true hv, rfl, fun p => by simp [targetNamed, MeetsNamed, Pack.meets]⟩
  · exact ⟨.none, rfl, rfl, rfl, fun p => by simp [targetNamed, MeetsNamed, Pack.meets]⟩

theorem servePackTarget_misfit {lane mode : Byte} {value : BitVec 32} {s : State}
    (h : ¬TargetFits mode value.toNat) : servePackTarget lane mode value s = (s, .refuse .range) := by
  have unfit {m : TargetMode} (hm : targetModeOf mode.toNat = some m)
      (hno : targetInRange m value.toNat ≠ true) : servePackTarget lane mode value s = (s, .refuse .range) :=
    servePackTarget_unfit hm (Bool.eq_false_of_not_eq_true hno)
  obtain ⟨h0, hm⟩ | ⟨h1, hm⟩ | ⟨h2, hm⟩ | ⟨-, -, -, hnone⟩ := targetModeOf_cases mode
  · exact unfit hm fun hv => h (.inl ⟨h0, of_decide_eq_true hv⟩)
  · exact unfit hm fun hv => h (.inr (.inl ⟨h1, of_decide_eq_true hv⟩))
  · exact absurd (.inr (.inr h2)) h
  · exact servePackTarget_noMode hnone

/-- Settles O34: what a target's mode and range refuse, and a target that closes its pack or stands. -/
theorem packTarget : Obligations.PackTarget := by
  intro tag lane mode value s h inRange target
  rw [exec_packTarget]
  refine ⟨fun hbad => receive_answers h ?_, fun l hl hrange => ?_⟩
  · obtain habove | hmisfit := hbad
    · exact servePackTarget_above (placeOf_above habove)
    · exact servePackTarget_misfit hmisfit
  · obtain ⟨m, hmode, hfits, hheld, hmeets⟩ := targetModeOf_fits hrange
    intro p meets written
    have hserve := servePackTarget_fits (s := s.inHand ⟨tag, .packTarget lane mode value⟩)
      (placeOf_of_toNat_eq hl) hmode hfits
    rw [hheld] at hserve
    have hmet : meets ↔ (p.state = .opened ∧ p.meets (targetNamed mode value.toNat) = true) :=
      and_congr_right fun _ => (hmeets p).symm
    refine ⟨fun hno => receive_answers h (hserve.trans ?_), fun hyes => receive_answers h (hserve.trans ?_)⟩
    · obtain ⟨hwritten, hreport⟩ := writeTarget_unmet (l := l) (s := s.inHand _) (mt hmet.2 hno)
      rw [hwritten, hreport]
      rfl
    · obtain ⟨hwritten, hreport⟩ := writeTarget_met (l := l) (s := s.inHand _) (hmet.1 hyes)
      rw [hwritten, hreport]
      exact congrArg (·, _) (closePack_inHand l .target written _)

/-! ### Lots (R156, R158, R159) -/

/-- A lot's ticket stored, its slot FREE (R159). -/
theorem storeLotTicket_eq (i : Fin 4) (overrun : Bool) (s : State) : storeLotTicket i overrun s = { s with
      tlu := { s.tlu with
        lots := s.tlu.lots.set i Lot.freeSlot
        tickets := s.tlu.tickets ++ [lotTicket i overrun (s.tlu.lots.get i)] }
      rpq := s.rpq.offer s.settings (.ticket (lotTicket i overrun (s.tlu.lots.get i))) } :=
  rfl

theorem closeLot_room {s : State} (h : s.tlu.tickets.length < 8) (i : Fin 4) :
    closeLot i s = storeLotTicket i false s := by
  obtain ⟨-, he⟩ | ⟨hfull, -⟩ := closeLot_cases i s
  · exact he
  · omega

theorem closeLot_full {s : State} (h : 8 ≤ s.tlu.tickets.length) (i : Fin 4) : closeLot i s =
    { s with tlu := { s.tlu with
      lots := s.tlu.lots.set i { s.tlu.lots.get i with mark := true }
      waiters := s.tlu.waiters ++ [.lot i] } } := by
  obtain ⟨hroom, -⟩ | ⟨-, he⟩ := closeLot_cases i s
  · omega
  · exact he

section LotClose
variable {slot : Byte} {i : Fin 4} {s : State}

theorem serveLotClose_above (h : placeOf slot = none) : serveLotClose slot s = (s, .refuse .range) := by
  simp only [serveLotClose, h]

theorem serveLotClose_busy (h : placeOf slot = some i) (hstate : (s.tlu.lots.get i).state ≠ .opened) :
    serveLotClose slot s = (s, .refuse .busy) := by
  simp only [serveLotClose, h]
  exact if_neg hstate

theorem serveLotClose_inFlight (h : placeOf slot = some i) (hstate : (s.tlu.lots.get i).state = .opened)
    (hflight : (s.tlu.lots.get i).inFlight ≠ 0) : serveLotClose slot s =
      (setLot i { s.tlu.lots.get i with state := .closing } s,
        .ok ([slot] ++ field 1 (s.tlu.lots.get i).inFlight ++ [0#8])) := by
  simp only [serveLotClose, h]
  rw [if_pos hstate, if_neg hflight]

theorem serveLotClose_landed (h : placeOf slot = some i) (hstate : (s.tlu.lots.get i).state = .opened)
    (hflight : (s.tlu.lots.get i).inFlight = 0) : serveLotClose slot s =
      (closeLot i (setLot i { s.tlu.lots.get i with state := .closing } s),
        .ok [slot, 0#8, (closeOutcome s).lotCode]) := by
  simp only [serveLotClose, h]
  rw [if_pos hstate, if_pos hflight, hflight]
  rfl

end LotClose

theorem exec_lotClose (tag slot : Byte) (s : State) :
    exec (.lotClose tag slot) s = unlessReset s (receive ⟨tag, .lotClose slot⟩) := rfl

/-- Settles O36: what a lot's close leaves with room and without, and the rows of LOT CLOSE. -/
theorem lotClose : Obligations.LotClose := by
  refine ⟨fun i s => ⟨closeLot_room (i := i), fun hfull => closeLot_full hfull i⟩, fun tag slot s h => ?_⟩
  rw [exec_lotClose]
  refine ⟨fun habove => receive_answers h (serveLotClose_above (placeOf_above habove)), fun i hi => ?_⟩
  have hplace := placeOf_of_toNat_eq hi
  refine ⟨fun hstate => receive_answers h (serveLotClose_busy hplace hstate),
    fun hstate hflight => receive_answers h (serveLotClose_inFlight hplace hstate hflight),
    fun hstate hflight hroom => receive_answers h
      ((serveLotClose_landed (s := s.inHand ⟨tag, .lotClose slot⟩) hplace hstate hflight).trans ?_),
    fun hstate hflight hfull => receive_answers h
      ((serveLotClose_landed (s := s.inHand ⟨tag, .lotClose slot⟩) hplace hstate hflight).trans ?_)⟩
  · rw [closeLot_room (s := setLot i _ (s.inHand _)) hroom, closeOutcome_room (s := s.inHand _) hroom]
    simp only [storeLotTicket_eq, setLot, Quad.get_set_same, Quad.set_set]
    rfl
  · rw [closeLot_full (s := setLot i _ (s.inHand _)) hfull, closeOutcome_full (s := s.inHand _) hfull]
    simp only [setLot, Quad.get_set_same, Quad.set_set]
    rfl

/-! ### Tickets (R162, R164, R165) -/

section Ticket
variable {s : State} {oldest : Ticket} {kept : List Ticket} {waiting : List Waiter}

theorem serveTicket_empty (h : s.tlu.tickets = []) : serveTicket s = (s, .refuse .empty) := by
  simp only [serveTicket, h]

theorem serveTicket_nobody (h : s.tlu.tickets = oldest :: kept) (hfirst : s.tlu.waiters = []) :
    serveTicket s = ({ s with tlu := { s.tlu with tickets := kept } }, .ok (ticketBytes oldest)) := by
  simp only [serveTicket, waiterService, h, hfirst]

theorem serveTicket_pack {l : Fin 4} {cause : CloseCause} (h : s.tlu.tickets = oldest :: kept)
    (hfirst : s.tlu.waiters = .pack l :: waiting) (hcause : (s.tlu.packs.get l).cause = some cause) :
    serveTicket s = (storePackTicket l cause true { s with tlu := { s.tlu with
      tickets := kept, waiters := waiting, holdLine := s.tlu.holdLine.set l false } }, .ok (ticketBytes oldest)) := by
  simp only [serveTicket, waiterService, h, hfirst, hcause, Option.getD_some]

theorem serveTicket_lot {i : Fin 4} (h : s.tlu.tickets = oldest :: kept)
    (hfirst : s.tlu.waiters = .lot i :: waiting) : serveTicket s = (storeLotTicket i true { s with tlu := { s.tlu with
      tickets := kept, waiters := waiting } }, .ok (ticketBytes oldest)) := by
  simp only [serveTicket, waiterService, h, hfirst]

end Ticket

theorem exec_ticket (tag : Byte) (s : State) :
    exec (.ticket tag) s = unlessReset s (receive ⟨tag, .ticket⟩) := rfl

/-- Settles O37: the oldest ticket leaves, and the first waiter is served. -/
theorem ticketRemovesTheOldest : Obligations.TicketRemovesTheOldest := by
  intro tag s h
  rw [exec_ticket]
  refine ⟨fun hnone => receive_answers h (serveTicket_empty hnone), fun oldest kept htickets => ?_⟩
  refine ⟨fun hnobody => receive_answers h (serveTicket_nobody htickets hnobody),
    fun l waiting cause hfirst hcause => receive_answers h ?_, fun i waiting hfirst => receive_answers h ?_⟩
  · refine (serveTicket_pack (s := s.inHand _) htickets hfirst hcause).trans ?_
    rw [storePackTicket_eq]
    rfl
  · refine (serveTicket_lot (s := s.inHand _) htickets hfirst).trans ?_
    rw [storeLotTicket_eq]
    rfl

end Sys2Proof.Machine

/-! The end of measuring: STOP, PAUSE, a fault and the end of a calibration leave the state that `State.measuringEnded`
gives (R12, R55, R84, R176, R178), whose parts are read off here once. -/

namespace Sys2Proof.Machine

/-! ### What the end of measuring leaves -/

/-- With no hide open nothing is handed on, and only the MODE record is submitted (R178). -/
theorem measuringEnded_empty {s : State} (h : s.htk.table = []) (flags : FlagSet) (m : Mode) (f : FaultCause)
    (c : ModeCause) : (s.measuringEnded flags m f c).stc = s.stc ∧ (s.measuringEnded flags m f c).tru = s.tru
      ∧ (s.measuringEnded flags m f c).tlu = s.tlu
      ∧ (s.measuringEnded flags m f c).rpq
          = s.rpq.offer s.settings (.mode s.mdc.mode m c s.tcu.hwm (nextLineNumber s) 0) := by
  rw [State.measuringEnded, h]
  exact ⟨rfl, rfl, rfl, rfl⟩

/-- The parts that an end of measuring leaves the same whatever hides it hands on. -/
structure Ended (m : Mode) (f : FaultCause) (s t : State) : Prop where
  pins : t.pins = s.pins
  mdc : t.mdc = ⟨m, f⟩
  tcu : t.tcu = { s.tcu with
    stallTimer := if m = .pause ∧ s.pins.beltRun = true then some s.settings.stallTime else none }
  slr : t.slr = if s.mdc.mode = .pause then s.slr
    else { s.slr with scanning := false, outstanding := none, gathered := [] }
  lcn : t.lcn = s.lcn
  htk : t.htk = { s.htk with table := [], shadow := [], tracking := false }
  cml : t.cml = s.cml

theorem measuringEnded_ended (flags : FlagSet) (m : Mode) (f : FaultCause) (c : ModeCause) (s : State) :
    Ended m f s (s.measuringEnded flags m f c) := by
  have h := handOnAll_measuring (closingHides flags s.htk.table) { s with
    slr := if s.mdc.mode = .pause then s.slr
      else { s.slr with scanning := false, outstanding := none, gathered := [] }
    htk := { s.htk with table := [], shadow := [], tracking := false } }
  exact ⟨h.pins, rfl, rfl, h.slr, h.lcn, h.htk, h.cml⟩

/-- While no calibration is WAITING the gain stays (R65). -/
theorem measuringEnded_settled {s : State} (h : ∀ a, s.cal ≠ .waiting a) (flags : FlagSet) (m : Mode) (f : FaultCause)
    (c : ModeCause) : (s.measuringEnded flags m f c).settings = s.settings
      ∧ (s.measuringEnded flags m f c).cal = s.cal :=
  handOnAll_settled (closingHides flags s.htk.table) { s with
    slr := if s.mdc.mode = .pause then s.slr
      else { s.slr with scanning := false, outstanding := none, gathered := [] }
    htk := { s.htk with table := [], shadow := [], tracking := false } } h

/-! ### Calibrations that an end of measuring ends (R83, R84) -/

theorem abortCalibration_of_none {s : State} (h : s.cal = .none) : abortCalibration s = s := by
  rw [abortCalibration_eq, h]
  obtain ⟨pins, settings, tcu, slr, lcn, htk, cal, stc, tru, tlu, mdc, rpq, cml, openChoices, pending⟩ := s
  exact congrArg (State.mk pins settings tcu slr lcn htk · stc tru tlu mdc rpq cml openChoices pending) h.symm

/-- While a calibration is outstanding in CALIBRATE alone, an end of measuring ends it when there is one (R84). -/
theorem changeMode_endMeasuring_aborts {s : State} (hwatch : s.mdc.mode.watched = true)
    (hcal : s.cal = .none ↔ s.mdc.mode ≠ .calibrate) (flags : FlagSet) {m : Mode} (hm : m.scans = false)
    (f : FaultCause) (c : ModeCause) : changeMode m f c s.htk.table.length (endMeasuring flags s)
      = (abortCalibration s).measuringEnded flags m f c := by
  rw [changeMode_endMeasuring flags m f c s hwatch hm]
  by_cases hmode : s.mdc.mode = .calibrate
  · rw [if_pos hmode]
  · rw [if_neg hmode, abortCalibration_of_none (hcal.2 hmode)]

/-- A fault request in a state that is watched ends measuring in FAULT (R84, R176). -/
theorem faultRequest_aborts {s : State} (hwatch : s.mdc.mode.watched = true)
    (hcal : s.cal = .none ↔ s.mdc.mode ≠ .calibrate) (f : FaultCause) (c : ModeCause) :
    faultRequest f c s = (abortCalibration s).measuringEnded 0x0030#16 .fault f c :=
  (faultRequest_watched hwatch f c).trans (changeMode_endMeasuring_aborts hwatch hcal _ rfl f c)

/-- The end of an ENDING calibration ends measuring, and the calibration with it (R83, R175). -/
theorem calibrationEnds_eq {s : State} (hmode : s.mdc.mode = .calibrate) (hcal : s.cal = .ending) :
    calibrationEnds s = { s.measuringEnded 0x0010#16 .idle .none .calEnd with cal := .none } := by
  rw [calibrationEnds_ending hmode hcal]
  have hended : (if s.mdc.mode = .pause then s.slr
      else { s.slr with scanning := false, outstanding := none, gathered := [] }) = (scanEnd s).slr := by
    rw [hmode]
    rfl
  have h := closeAll_measuring Flag.cut.only (scanEnd s)
  have hu : handOnAll (closingHides 0x0010#16 s.htk.table) { s with
      slr := if s.mdc.mode = .pause then s.slr
        else { s.slr with scanning := false, outstanding := none, gathered := [] }
      htk := { s.htk with table := [], shadow := [], tracking := false } } = closeAll Flag.cut.only (scanEnd s) := by
    rw [hended]
    rfl
  simp only [changeMode, enterMode, submit, State.measuringEnded, hu, h.mdc, h.tcu, h.pins]
  rfl

/-! ### The stall timer (R11) -/

theorem exec_stallTimerExpiry {s : State} (h : s.pins.resetAsserted = false) :
    exec .stallTimerExpiry s = .next (stallExpires s) := unlessReset_released h _

theorem stallExpires_running {s : State} {time : Nat} (h : s.tcu.stallTimer = some time) :
    stallExpires s = faultRequest .stall .stall (submit (.stall s.mdc.mode s.tcu.position s.tcu.hwm time)
      { s with tcu := { s.tcu with stallTimer := none } }) := by
  simp only [stallExpires, h]

/-- Settles O7: STALL is submitted, and the fault request ends measuring from the state that leaves. -/
theorem stallTimerExpiryEntersFault : Obligations.StallTimerExpiryEntersFault := by
  intro s hrel hs
  rw [exec_stallTimerExpiry hrel]
  refine ⟨fun hstopped => by rw [stallExpires, hstopped], fun time htime => ?_⟩
  have hwatch : s.mdc.mode.watched = true := by
    have htimer := hs.2.2.2.2.2.2.1
    rw [htime, Option.isSome_some] at htimer
    exact (Bool.and_eq_true_iff.1 htimer.symm).1
  have hcal := hs.2.2.2.2.2.1
  intro stalled told stopped t
  have hstopped : stopped = abortCalibration (submit (.stall s.mdc.mode s.tcu.position s.tcu.hwm time)
      { s with tcu := { s.tcu with stallTimer := none } }) := by
    rw [abortCalibration_eq]
    rfl
  have hnext : stallExpires s = t := by
    rw [stallExpires_running htime]
    rw [faultRequest_aborts, ← hstopped]
    · exact hwatch
    · exact hcal
  have hended := measuringEnded_ended 0x0030#16 .fault .stall .stall stopped
  have hquiet := measuringEnded_settled (s := stopped) nofun 0x0030#16 .fault .stall .stall
  refine ⟨congrArg _ hnext, hended.mdc, hended.tcu, hended.slr, hended.htk, hquiet.2, hquiet.1, hended.lcn,
    hended.cml, hended.pins, fun htable hnone => ?_⟩
  obtain ⟨hstc, htru, htlu, hrpq⟩ := measuringEnded_empty (s := stopped) htable 0x0030#16 .fault .stall .stall
  refine ⟨hstc, htru, htlu, hrpq.trans ?_⟩
  have htold : told = stalled := by
    simp only [told, hnone]
  exact congrArg (fun q : Rpq => q.offer s.settings _) htold

/-! ### The end of a calibration (R83, R175) -/

theorem exec_calEnd {s : State} (h : s.pins.resetAsserted = false) : exec .calEnd s = .next (calibrationEnds s) :=
  unlessReset_released h _

/-- Settles O21: the end is taken in CALIBRATE while ENDING, and dropped at any other moment. -/
theorem calEndReturnsToIdle : Obligations.CalEndReturnsToIdle := by
  intro s hrel
  rw [exec_calEnd hrel]
  refine ⟨fun hno => congrArg _ (if_neg hno), fun hmode hcal => ?_⟩
  have hended := measuringEnded_ended 0x0010#16 .idle .none .calEnd s
  have hquiet := measuringEnded_settled (s := s) (by rw [hcal]; nofun) 0x0010#16 .idle .none .calEnd
  have hslr : (s.measuringEnded 0x0010#16 .idle .none .calEnd).slr
      = { s.slr with scanning := false, outstanding := none, gathered := [] } :=
    hended.slr.trans (if_neg (by rw [hmode]; nofun))
  refine ⟨congrArg _ (calibrationEnds_eq hmode hcal), hended.mdc, rfl, hslr, hended.htk, hended.tcu, hquiet.1,
    hended.lcn, hended.cml, hended.pins, fun htable => ?_⟩
  obtain ⟨hstc, htru, htlu, hrpq⟩ := measuringEnded_empty htable 0x0010#16 .idle .none .calEnd
  exact ⟨hstc, htru, htlu, hrpq.trans (by rw [hmode])⟩

/-! ### PAUSE and STOP (R171, R173) -/

/-- A close-all adds its flags to every open hide, and NOSPOT to one whose spot is not FOUND (R55, R101). -/
theorem closeSpot_cut (flags : FlagSet) (h : Hide) : closeSpot { h with flags := h.flags ||| flags }
    = { h with flags := h.flags ||| flags ||| (if h.spot.state = .found then 0#16 else 0x0200#16) } := by
  unfold closeSpot
  by_cases hfound : h.spot.state = .found
  · simp [hfound, addFlagIf]
  · simp only [hfound, addFlagIf, decide_false, Bool.not_false, if_true, if_false]
    rfl

theorem abortCalibration_inHand (s : State) (t : Telegram) :
    abortCalibration (s.inHand t) = (abortCalibration s).inHand t := by
  rw [abortCalibration_eq, abortCalibration_eq]
  rfl

theorem measuringEnded_inHand (flags : FlagSet) (m : Mode) (f : FaultCause) (c : ModeCause) (s : State)
    (t : Telegram) : (s.inHand t).measuringEnded flags m f c = (s.measuringEnded flags m f c).inHand t := by
  refine (measuringEnded_link flags m f c { s.cml with buffer := [t] } s).trans ?_
  rw [State.inHand, (measuringEnded_ended flags m f c s).cml]
  rfl

theorem servePause_run {s : State} (hmode : s.mdc.mode = .run) :
    servePause s = (s.measuringEnded 0x0010#16 .pause .none .pause, .ok [2#8]) := by
  rw [servePause, if_pos hmode, changeMode_endMeasuring _ _ _ _ _ (by rw [hmode]; rfl) rfl, if_neg (by rw [hmode]; nofun)]
  rfl

theorem serveStop_watched {s : State} (hwatch : s.mdc.mode.watched = true)
    (hcal : s.cal = .none ↔ s.mdc.mode ≠ .calibrate) :
    serveStop s = ((abortCalibration s).measuringEnded 0x0010#16 .idle .none .stop, .ok [0#8]) := by
  rw [serveStop, if_pos hwatch, changeMode_endMeasuring_aborts hwatch hcal _ rfl]
  rfl

theorem exec_pause (tag : Byte) (s : State) : exec (.pause tag) s = unlessReset s (receive ⟨tag, .pause⟩) := rfl

theorem exec_stop (tag : Byte) (s : State) : exec (.stop tag) s = unlessReset s (receive ⟨tag, .stop⟩) := rfl

/-- Settles O40: PAUSE and STOP end measuring; what a close-all hands on, and one hide after another. -/
theorem pauseAndStopCloseEveryHide : Obligations.PauseAndStopCloseEveryHide := by
  refine ⟨fun tag s h hs => ?_, fun flags table => ?_, fun h later s => ⟨rfl, rfl⟩⟩
  · have hcal := hs.2.2.2.2.2.1
    intro ended htk aborted
    constructor
    · intro hmode
      have hnone : s.cal = .none := hcal.2 (by rw [hmode]; nofun)
      have hended := measuringEnded_ended 0x0010#16 .pause .none .pause s
      have hquiet := measuringEnded_settled (s := s) (by rw [hnone]; nofun) 0x0010#16 .pause .none .pause
      refine ⟨?_, hended.mdc, hended.slr.trans (if_neg (by rw [hmode]; nofun)), hended.htk, ?_, hquiet.2, hquiet.1,
        hended.lcn, hended.cml, fun htable => ?_⟩
      · rw [exec_pause]
        exact receive_answers h ((servePause_run (s := s.inHand _) hmode).trans (by rw [measuringEnded_inHand]))
      · exact hended.tcu.trans (by simp)
      · obtain ⟨hstc, htru, htlu, hrpq⟩ := measuringEnded_empty htable 0x0010#16 .pause .none .pause
        exact ⟨hstc, htru, htlu, hrpq.trans (by rw [hmode])⟩
    · intro hmode
      have hwatch : s.mdc.mode.watched = true := by
        obtain hm | hm | hm := hmode <;> rw [hm] <;> rfl
      have habort : abortCalibration s = { s with cal := .none, rpq := aborted } := abortCalibration_eq s
      have hended := measuringEnded_ended 0x0010#16 .idle .none .stop { s with cal := .none, rpq := aborted }
      have hquiet := measuringEnded_settled (s := { s with cal := .none, rpq := aborted }) nofun
        0x0010#16 .idle .none .stop
      refine ⟨?_, hended.mdc, hended.slr, hended.htk, hended.tcu, hquiet.2, hquiet.1, hended.lcn, hended.cml,
        fun htable => measuringEnded_empty (s := { s with cal := .none, rpq := aborted }) htable 0x0010#16 .idle .none
          .stop⟩
      rw [exec_stop]
      refine receive_answers h ((serveStop_watched (s := s.inHand _) hwatch hcal).trans ?_)
      rw [abortCalibration_inHand, measuringEnded_inHand, habort]
  · have hmap : table.map (fun h => closeSpot { h with flags := h.flags ||| flags }) = _ :=
      List.map_congr_left fun h _ => closeSpot_cut flags h
    refine ⟨?_, sortBy_sorted _ _⟩
    rw [← hmap]
    exact sortBy_perm _ _

end Sys2Proof.Machine

/-! Encoder steps and the HWM advance (R1 to R4, R8, R10, R14). A forward step at depth 0 moves the belt and then takes
what falls due; what is due is stated once here, item by item. -/

namespace Sys2Proof.Machine

/-! ### Steps of the encoder (R1) -/

/-- The turn of the encoder from one pair of levels to another. -/
def turnFrom (s : State) (a b : Bool) : Fin 4 := encoderPhase a b - encoderPhase s.pins.encoderA s.pins.encoderB

theorem decodeStep_turn : ∀ a b a' b' : Bool,
    (encoderPhase a' b' - encoderPhase a b = 0 ∨ encoderPhase a' b' - encoderPhase a b = 2 → decodeStep a b a' b' = none)
    ∧ (encoderPhase a' b' - encoderPhase a b = 1 → decodeStep a b a' b' = some .forward)
    ∧ (encoderPhase a' b' - encoderPhase a b = 3 → decodeStep a b a' b' = some .back) := by
  decide

/-- The state with new levels of the encoder inputs. -/
def State.leveled (a b : Bool) (s : State) : State := { s with pins := { s.pins with encoderA := a, encoderB := b } }

section Encoder
variable {a b : Bool} {s : State}

theorem encoderChanges_noStep (h : turnFrom s a b = 0 ∨ turnFrom s a b = 2) : encoderChanges a b s = s.leveled a b := by
  simp only [encoderChanges, (decodeStep_turn _ _ _ _).1 h]
  rfl

theorem encoderChanges_forward (h : turnFrom s a b = 1) :
    encoderChanges a b s = stepForward (restartStallTimer (s.leveled a b)) := by
  simp only [encoderChanges, (decodeStep_turn _ _ _ _).2.1 h]
  rfl

theorem encoderChanges_back (h : turnFrom s a b = 3) :
    encoderChanges a b s = stepBack (restartStallTimer (s.leveled a b)) := by
  simp only [encoderChanges, (decodeStep_turn _ _ _ _).2.2 h]
  rfl

theorem exec_encoderStep (h : s.pins.resetAsserted = false) :
    exec (.encoderStep a b) s = .next (encoderChanges a b s) :=
  congrArg Host.Outcome.next (if_neg (by rw [h]; nofun))

end Encoder

/-! ### The HWM advance (R2, R4) -/

/-- The belt and its HWM one count further, with the new levels and the stall timer restarted (R2, R10). -/
def State.advanced (a b : Bool) (s : State) : State :=
  { s with
    pins := { s.pins with encoderA := a, encoderB := b }
    tcu := { s.tcu with
      position := s.tcu.position + 1
      hwm := s.tcu.hwm + 1
      direction := .forward
      stallTimer := s.tcu.stallTimer.map (fun _ => s.settings.stallTime) } }

/-- A forward step at depth 0 is an HWM advance (R2, R4). -/
theorem exec_encoderStep_advances {a b : Bool} {s : State} (hrel : s.pins.resetAsserted = false)
    (hturn : turnFrom s a b = 1) (hdepth : (s.tcu.hwm - s.tcu.position).toNat = 0) :
    exec (.encoderStep a b) s = .next (takeDue (s.advanced a b)) := by
  rw [exec_encoderStep hrel, encoderChanges_forward hturn]
  exact congrArg _ (if_pos hdepth)

theorem depth_zero {s : State} (h : s.tcu.position = s.tcu.hwm) : (s.tcu.hwm - s.tcu.position).toNat = 0 := by
  simp [h]

/-! ### What falls due at an advance -/

theorem lineDue_iff (s : State) :
    lineDue s = true ↔ s.mdc.mode.scans = true ∧ ∃ g, s.tcu.grid = some g ∧ g.nextPos = s.tcu.hwm := by
  unfold lineDue
  split
  · rename_i hg
    simp [hg]
  · rename_i g hg
    simp [hg]

theorem dropDue_iff (s : State) :
    dropDue s = true ↔ ∃ e rest, s.tru.transit = e :: rest ∧ reached s.tcu.hwm e.dropPos = true := by
  unfold dropDue
  split
  · rename_i h
    simp [h]
  · rename_i e rest h
    simp [h]

/-- An order that head h misses at this HWM (R118). -/
def Order.misses (h : Fin 4) (hwm : Count) (o : Order) : Prop :=
  o.head = h ∧ (o.state = .waiting ∨ o.state = .arming) ∧ o.missPos = hwm

theorem Order.missDue_iff (o : Order) (h : Fin 4) (hwm : Count) :
    (o.head = h ∧ o.missDue hwm = true) ↔ o.misses h hwm := by
  simp [Order.missDue, Order.misses]

theorem mem_missesDue_iff (h : Fin 4) (s : State) (x : Tag × Fin 4 × Order) : x ∈ missesDue h s ↔
    ∃ e ∈ s.tru.transit, e.stamp = some x.2.2 ∧ x.2.2.misses h s.tcu.hwm ∧ x.1 = e.tag ∧ x.2.1 = e.lane := by
  simp only [missesDue, mem_sortBy, List.mem_filterMap]
  constructor
  · rintro ⟨e, he, hx⟩
    split at hx
    · exact absurd hx nofun
    · rename_i o ho
      obtain ⟨hdue, ⟨⟩⟩ := Option.ite_none_right_eq_some.1 hx
      exact ⟨e, he, ho, (o.missDue_iff h _).1 hdue, rfl, rfl⟩
  · rintro ⟨e, he, ho, hm, htag, hlane⟩
    refine ⟨e, he, ?_⟩
    simp only [ho]
    rw [if_pos ((x.2.2.missDue_iff h _).2 hm), ← htag, ← hlane]

/-- The ARMED order in hand of a head whose fire position is at the HWM (R112). -/
theorem fireDue_some {h : Fin 4} {s : State} {t : Tag} (hf : fireDue h s = some t) :
    (s.stc.get h).state = .armed ∧ (s.stc.get h).tag = some t
      ∧ ∃ e ∈ s.tru.transit, ∃ o, e.tag = t ∧ e.stamp = some o ∧ o.head = h ∧ o.fire = s.tcu.hwm := by
  unfold fireDue at hf
  split at hf
  · rename_i harmed
    split at hf
    · exact absurd hf nofun
    · rename_i t' o hhand
      obtain ⟨hfire, ⟨⟩⟩ := Option.ite_none_right_eq_some.1 hf
      unfold orderInHand at hhand
      split at hhand
      · exact absurd hhand nofun
      · rename_i t' htag
        split at hhand
        · exact absurd hhand nofun
        · rename_i e hfound
          split at hhand
          · exact absurd hhand nofun
          · rename_i o' ho
            obtain ⟨hhead, heq⟩ := Option.ite_none_right_eq_some.1 hhand
            obtain ⟨rfl, rfl⟩ := Prod.mk.inj (Option.some.inj heq)
            have hmem := List.mem_of_find?_eq_some hfound
            have htag' : e.tag = t' := by simpa using List.find?_some hfound
            exact ⟨harmed, htag, e, hmem, o', htag', ho, hhead, hfire⟩
  · exact absurd hf nofun

/-- Where no tag is held twice, the entry of a tag is the one found by it. -/
theorem findEntry_of_mem {l : List Entry} (hl : (l.map (fun x => x.tag)).Nodup) {e : Entry} (he : e ∈ l) :
    findEntry e.tag l = some e := by
  induction l with
  | nil => exact absurd he List.not_mem_nil
  | cons x xs ih =>
    obtain ⟨hx, hxs⟩ := List.nodup_cons.1 hl
    obtain rfl | he := List.mem_cons.1 he
    · simp [findEntry]
    · have hne : x.tag ≠ e.tag := fun h => hx (List.mem_map.2 ⟨e, he, h.symm⟩)
      simpa [findEntry, hne] using ih hxs he

/-- With the tags of the list distinct, the order in hand is the order of the entry whose tag is in hand. -/
theorem orderInHand_of_mem {h : Fin 4} {s : State} {e : Entry} {o : Order}
    (hl : (s.tru.transit.map (fun x => x.tag)).Nodup) (he : e ∈ s.tru.transit) (ho : e.stamp = some o)
    (hhead : o.head = h) (htag : (s.stc.get h).tag = some e.tag) : orderInHand h s = some (e.tag, o) := by
  simp [orderInHand, htag, findEntry_of_mem hl he, ho, hhead]

theorem fireDue_of_mem {h : Fin 4} {s : State} {e : Entry} {o : Order}
    (hl : (s.tru.transit.map (fun x => x.tag)).Nodup) (he : e ∈ s.tru.transit) (ho : e.stamp = some o)
    (hhead : o.head = h) (htag : (s.stc.get h).tag = some e.tag) (harmed : (s.stc.get h).state = .armed)
    (hfire : o.fire = s.tcu.hwm) : fireDue h s = some e.tag := by
  simp [fireDue, harmed, orderInHand_of_mem hl he ho hhead htag, hfire]

/-- What a head has due at an advance is an order at its fire position or at its miss position (R112, R118). -/
theorem stampDue_reached {h : Fin 4} {s : State} (hdue : stampDue h s = true) :
    ∃ e ∈ s.tru.transit, ∃ o, e.stamp = some o ∧ o.head = h
      ∧ (((s.stc.get h).state = .armed ∧ (s.stc.get h).tag = some e.tag ∧ o.fire = s.tcu.hwm)
        ∨ ((o.state = .waiting ∨ o.state = .arming) ∧ o.missPos = s.tcu.hwm)) := by
  obtain hfire | hmiss := Bool.or_eq_true_iff.1 hdue
  · obtain ⟨t, ht⟩ := Option.isSome_iff_exists.1 hfire
    obtain ⟨harmed, htag, e, he, o, het, ho, hhead, hat⟩ := fireDue_some ht
    exact ⟨e, he, o, ho, hhead, .inl ⟨harmed, het ▸ htag, hat⟩⟩
  · obtain ⟨x, hx⟩ := List.exists_mem_of_ne_nil (missesDue h s) (by simpa using hmiss)
    obtain ⟨e, he, ho, ⟨hhead, hst, hat⟩, -, -⟩ := (mem_missesDue_iff h s x).1 hx
    exact ⟨e, he, x.2.2, ho, hhead, .inr ⟨hst, hat⟩⟩

theorem stampDue_of_mem {h : Fin 4} {s : State} (hl : (s.tru.transit.map (fun x => x.tag)).Nodup) {e : Entry}
    {o : Order} (he : e ∈ s.tru.transit) (ho : e.stamp = some o) (hhead : o.head = h)
    (hat : ((s.stc.get h).state = .armed ∧ (s.stc.get h).tag = some e.tag ∧ o.fire = s.tcu.hwm)
      ∨ ((o.state = .waiting ∨ o.state = .arming) ∧ o.missPos = s.tcu.hwm)) : stampDue h s = true := by
  refine Bool.or_eq_true_iff.2 ?_
  obtain ⟨harmed, htag, hfire⟩ | ⟨hst, hmiss⟩ := hat
  · exact .inl (by rw [fireDue_of_mem hl he ho hhead htag harmed hfire]; rfl)
  · have hx : (e.tag, e.lane, o) ∈ missesDue h s :=
      (mem_missesDue_iff h s _).2 ⟨e, he, ho, ⟨hhead, hst, hmiss⟩, rfl, rfl⟩
    exact .inr (by simpa using List.ne_nil_of_mem hx)

/-- No head has anything due where no order's fire or miss position is at the HWM. -/
theorem stampDue_none {s : State}
    (h : ∀ e ∈ s.tru.transit, ∀ o ∈ e.stamp.toList, o.fire ≠ s.tcu.hwm ∧ o.missPos ≠ s.tcu.hwm) (head : Fin 4) :
    stampDue head s = false := by
  refine Bool.eq_false_of_not_eq_true fun hdue => ?_
  obtain ⟨e, he, o, ho, -, ⟨-, -, hat⟩ | ⟨-, hat⟩⟩ := stampDue_reached hdue
  · exact (h e he o (by rw [ho]; exact List.mem_singleton_self o)).1 hat
  · exact (h e he o (by rw [ho]; exact List.mem_singleton_self o)).2 hat

theorem dropDue_none {s : State} (h : ∀ e ∈ s.tru.transit, reached s.tcu.hwm e.dropPos = false) :
    dropDue s = false := by
  refine Bool.eq_false_of_not_eq_true fun hdue => ?_
  obtain ⟨e, rest, hlist, hat⟩ := (dropDue_iff s).1 hdue
  have := h e (hlist ▸ List.mem_cons_self)
  rw [hat] at this
  exact absurd this nofun

theorem lineDue_none {s : State} (h : ∀ g ∈ s.tcu.grid.toList, s.mdc.mode.scans = true → g.nextPos ≠ s.tcu.hwm) :
    lineDue s = false := by
  refine Bool.eq_false_of_not_eq_true fun hdue => ?_
  obtain ⟨hscan, g, hg, hat⟩ := (lineDue_iff s).1 hdue
  exact h g (by rw [hg]; exact List.mem_singleton_self g) hscan hat

/-! ### One item due, or none -/

theorem filter_fours_none {p : Fin 4 → Bool} (h : ∀ i, p i = false) : fours.filter p = [] :=
  List.filter_eq_nil_iff.2 fun i _ => by rw [h i]; nofun

theorem filter_fours_one {p : Fin 4 → Bool} {h : Fin 4} (hp : ∀ i, p i = decide (i = h)) : fours.filter p = [h] := by
  rw [List.filter_congr (fun i _ => hp i)]
  clear hp
  revert h
  decide

theorem takeDue_nothing {s : State} (hline : lineDue s = false) (hstamp : ∀ h, stampDue h s = false)
    (hdrop : dropDue s = false) : takeDue s = s := by
  have hdue : dueItems s = [] := by
    rw [dueItems, hline, hdrop, filter_fours_none hstamp]
    rfl
  rw [takeDue, hdue]

theorem takeDue_line {s : State} (hline : lineDue s = true) (hstamp : ∀ h, stampDue h s = false)
    (hdrop : dropDue s = false) : takeDue s = lineAdvance s := by
  have hdue : dueItems s = [.line] := by
    rw [dueItems, hline, hdrop, filter_fours_none hstamp]
    rfl
  rw [takeDue, hdue]
  rfl

theorem takeDue_stamp {s : State} {head : Fin 4} (hline : lineDue s = false)
    (hstamp : ∀ h, stampDue h s = decide (h = head)) (hdrop : dropDue s = false) :
    takeDue s = stampAdvance head s := by
  have hdue : dueItems s = [.stamp head] := by
    rw [dueItems, hline, hdrop, filter_fours_one hstamp]
    rfl
  rw [takeDue, hdue]
  rfl

theorem takeDue_drops {s : State} (hline : lineDue s = false) (hstamp : ∀ h, stampDue h s = false)
    (hdrop : dropDue s = true) : takeDue s = dropAdvance s := by
  have hdue : dueItems s = [.drops] := by
    rw [dueItems, hline, hdrop, filter_fours_none hstamp]
    rfl
  rw [takeDue, hdue]
  rfl

/-- Settles O3: a turn of the encoder that makes nothing due. -/
theorem encoderStepMovesTheBelt : Obligations.EncoderStepMovesTheBelt := by
  intro a b s hrel
  have hexec := exec_encoderStep (a := a) (b := b) hrel
  refine ⟨fun hturn => hexec.trans (by rw [encoderChanges_noStep hturn]; rfl),
    fun hturn => hexec.trans (congrArg _ ((encoderChanges_back hturn).trans ?_)),
    fun hturn hdepth => hexec.trans (congrArg _ ((encoderChanges_forward hturn).trans (if_neg hdepth))),
    fun hturn hdepth hnothing => (exec_encoderStep_advances hrel hturn hdepth).trans (congrArg _ ?_)⟩
  · by_cases hstop : (s.tcu.hwm - s.tcu.position).toNat = 2 ^ 31 - 1
    · rw [if_pos hstop]
      exact if_pos hstop
    · rw [if_neg hstop]
      exact if_neg hstop
  · obtain ⟨hdown, hgrid⟩ := hnothing
    exact takeDue_nothing (lineDue_none hgrid) (stampDue_none fun e he => (hdown e he).2)
      (dropDue_none fun e he => (hdown e he).1)

/-! ### The line strobe (R8, R14) -/

/-- The grid moved on by one line (R8). -/
def State.gridOn (g : Grid) (s : State) : State :=
  { s with tcu := { s.tcu with grid := some { g with
    nextLine := g.nextLine + 1, nextPos := g.nextPos + BitVec.ofNat 32 s.settings.lineInterval } } }

theorem lineAdvance_grid {s : State} {g : Grid} (hg : s.tcu.grid = some g) :
    lineAdvance s = strobeArrives g.nextLine (s.gridOn g) := by
  simp only [lineAdvance, hg]
  rfl

theorem strobeArrives_free {s : State} (hscan : s.slr.scanning = true) (hfree : s.slr.outstanding = none) (n : Count) :
    strobeArrives n s = requestLine n s := by
  simp only [strobeArrives, hscan, if_true, hfree]

/-- Only the next line position falls due. -/
theorem takeDue_onlyLine {s : State} {g : Grid} (hscan : s.mdc.mode.scans = true) (hg : s.tcu.grid = some g)
    (hpos : g.nextPos = s.tcu.hwm) (hdown : s.noneDownstream s.tcu.hwm) : takeDue s = lineAdvance s :=
  takeDue_line ((lineDue_iff s).2 ⟨hscan, g, hg, hpos⟩) (stampDue_none fun e he => (hdown e he).2)
    (dropDue_none fun e he => (hdown e he).1)

theorem lineAdvance_requests {s : State} {g : Grid} (hscan : s.slr.scanning = true)
    (hfree : s.slr.outstanding = none) (hg : s.tcu.grid = some g) :
    lineAdvance s = requestLine g.nextLine (s.gridOn g) := by
  rw [lineAdvance_grid hg]
  exact strobeArrives_free (s := s.gridOn g) hscan hfree g.nextLine

/-- Settles O4: the strobe with no line outstanding requests its line. -/
theorem linePositionRequestsItsLine : Obligations.LinePositionRequestsItsLine := by
  refine ⟨fun a b s g hrel hturn hdepth hmode hscan hfree hg hpos hdown => ?_,
    fun s g hscan hfree hg => lineAdvance_requests hscan hfree hg⟩
  refine (exec_encoderStep_advances hrel hturn (depth_zero hdepth)).trans (congrArg _ ?_)
  refine (takeDue_onlyLine (s := s.advanced a b) hmode hg hpos hdown).trans ?_
  exact lineAdvance_requests hscan hfree hg

end Sys2Proof.Machine

/-! A line still outstanding at a strobe (R14, R15, R17). The bad line is taken by the tracker, then told; below the bad
limit the next line is requested, at it the scan is lost and measuring ends in FAULT. -/

namespace Sys2Proof.Machine

/-! ### A bad line (R14) -/

/-- The outstanding line taken as a bad line, with the last good readings and at its own position (R14, R17). -/
def State.badTaken (g : Grid) (m : Count) (s : State) : State :=
  { s with slr := { s.slr with outstanding := none } }.lineTaken m
    (g.origin + m * BitVec.ofNat 32 s.settings.lineInterval) (runList s.settings s.lcn s.slr.lastGood)

theorem badTaken_measuring (g : Grid) (m : Count) (s : State) :
    ∃ htk, SameMeasuring { s with slr := { s.slr with outstanding := none }, htk := htk } (s.badTaken g m) :=
  lineTaken_measuring m _ _ { s with slr := { s.slr with outstanding := none } }

/-- LINE_HELD after a line taken, and the bad-line count (R14). -/
def State.heldAfter (m : Count) (bad : Nat) (taken : State) : State :=
  { taken with rpq := taken.rpq.offer taken.settings (.lineHeld m bad), slr := { taken.slr with badCount := bad } }

theorem settleBadLine_eq {s : State} {g : Grid} (hg : s.tcu.grid = some g) (m : Count) :
    settleBadLine m s = (s.badTaken g m).heldAfter m (min (s.slr.badCount + 1) 15) := by
  have hpos : gridLinePos m s = g.origin + m * BitVec.ofNat 32 s.settings.lineInterval := by
    simp only [gridLinePos, hg]
    rfl
  simp only [settleBadLine, handOnLine, conditionLine, trackLine_eq_lineTaken]
  rw [State.badTaken, ← hpos]
  rfl

theorem strobeArrives_bad {s : State} {m : Count} (hscan : s.slr.scanning = true) (hout : s.slr.outstanding = some m)
    (n : Count) : strobeArrives n s =
      if (settleBadLine m s).settings.badLimit ≤ (settleBadLine m s).slr.badCount then scanLost m (settleBadLine m s)
      else requestLine n (settleBadLine m s) := by
  simp only [strobeArrives, hscan, if_true, hout]

/-! ### A lost scan (R15, R84) -/

/-- SCAN_LOST after the bad line that reached the limit (R15). -/
def State.lostAfter (m : Count) (bad : Nat) (held : State) : State :=
  { held with rpq := held.rpq.offer held.settings (.scanLost m bad) }

theorem faultRequest_ends {s : State} (hwatch : s.mdc.mode.watched = true) (f : FaultCause) (c : ModeCause) :
    faultRequest f c s =
      (if s.mdc.mode = .calibrate then abortCalibration s else s).measuringEnded 0x0030#16 .fault f c :=
  (faultRequest_watched hwatch f c).trans (changeMode_endMeasuring _ _ _ _ s hwatch rfl)

section ScanLost
variable {s : State} {m : Count}

theorem scanLost_run (hmode : s.mdc.mode = .run) :
    scanLost m s = (s.lostAfter m s.slr.badCount).measuringEnded 0x0030#16 .fault .scanLost .scanLost := by
  have hnot : ¬(s.mdc.mode = .calibrate ∧ s.cal = .ending) := fun h => by
    rw [hmode] at h
    exact absurd h.1 nofun
  refine (if_neg hnot).trans ((faultRequest_ends (s := s.lostAfter m s.slr.badCount) ?_ _ _).trans ?_)
  · exact (congrArg Mode.watched hmode).trans rfl
  · rw [if_neg]
    rw [show (s.lostAfter m s.slr.badCount).mdc.mode = .run from hmode]
    nofun

theorem scanLost_calibrate (hmode : s.mdc.mode = .calibrate) (hcal : s.cal ≠ .ending) :
    scanLost m s = (abortCalibration (s.lostAfter m s.slr.badCount)).measuringEnded 0x0030#16 .fault .scanLost
      .scanLost := by
  refine (if_neg fun h => hcal h.2).trans ((faultRequest_ends (s := s.lostAfter m s.slr.badCount) ?_ _ _).trans ?_)
  · exact (congrArg Mode.watched hmode).trans rfl
  · rw [if_pos]
    exact hmode

/-- The line that ends the calibration and loses the scan leaves two requests, taken in either order (R84). -/
theorem scanLost_ending (hmode : s.mdc.mode = .calibrate) (hcal : s.cal = .ending) :
    let counted := { s.lostAfter m s.slr.badCount with openChoices := s.openChoices + 1 }
    scanLost m s =
      if Config.endBeforeFault s.openChoices then
        { counted.measuringEnded 0x0010#16 .idle .none .calEnd with cal := .none }
      else { counted with cal := .none }.measuringEnded 0x0030#16 .fault .scanLost .scanLost := by
  intro counted
  have hlost : scanLost m s = faultRequest .scanLost .scanLost
      (if Config.endBeforeFault s.openChoices then calibrationEnds counted else counted) := if_pos ⟨hmode, hcal⟩
  rw [hlost]
  by_cases hfirst : Config.endBeforeFault s.openChoices = true
  · rw [if_pos hfirst, if_pos hfirst, calibrationEnds_eq (s := counted) hmode hcal]
    exact faultRequest_unwatched rfl _ _
  · have haborted : abortCalibration counted = { counted with cal := .none } := by
      rw [abortCalibration_eq, show counted.cal = .ending from hcal]
    have hwatch : counted.mdc.mode.watched = true := (congrArg Mode.watched hmode).trans rfl
    rw [if_neg hfirst, if_neg hfirst, faultRequest_ends hwatch, if_pos (show counted.mdc.mode = .calibrate from hmode),
      haborted]

end ScanLost

/-- Settles O5: the strobe alone at its advance, and a bad line below the limit, at it in RUN, and at it in CALIBRATE. -/
theorem unansweredLineIsHeldOrLosesTheScan : Obligations.UnansweredLineIsHeldOrLosesTheScan := by
  refine ⟨fun a b s g hrel hturn hdepth hmode hg hpos hdown =>
      (exec_encoderStep_advances hrel hturn (depth_zero hdepth)).trans
        (congrArg _ (takeDue_onlyLine (s := s.advanced a b) hmode hg hpos hdown)),
    fun s g m hmode hscan hout hg => ?_⟩
  intro bad number taken held
  obtain ⟨htk, hm⟩ := badTaken_measuring g m (s.gridOn g)
  have hslr : taken.slr = { s.slr with outstanding := none } := hm.slr
  have hmdc : taken.mdc = s.mdc := hm.mdc
  have hchoices : taken.openChoices = s.openChoices := hm.openChoices
  have hlimit : taken.settings.badLimit = s.settings.badLimit := by
    obtain ⟨gain, hset⟩ := hm.settings
    exact (congrArg Settings.badLimit hset :)
  have hsettled : settleBadLine m (s.gridOn g) = held := settleBadLine_eq (s := s.gridOn g) rfl m
  have hstrobe : lineAdvance s = if s.settings.badLimit ≤ bad then scanLost m held else requestLine g.nextLine held := by
    rw [lineAdvance_grid hg, strobeArrives_bad (s := s.gridOn g) hscan hout, hsettled, ← hlimit]
  refine ⟨fun hbelow => ?_, fun hreached => ?_, hm.lcn, hm.cml, hmdc, hslr⟩
  · rw [hstrobe, if_neg (Nat.not_le.2 hbelow)]
    show sendScan _ _ = _
    simp only [sendScan, held, hslr]
    rfl
  · intro lost told aborted counted
    rw [hstrobe, if_pos hreached]
    have hheld : held.mdc.mode = s.mdc.mode := congrArg Mdc.mode hmdc
    refine ⟨fun hrun => scanLost_run (hheld.trans hrun), fun hcalib hcal => ?_, fun hcalib hcal => ?_⟩
    · refine (scanLost_calibrate (hheld.trans hcalib) hcal).trans ?_
      rw [abortCalibration_eq]
      rfl
    · refine (scanLost_ending (hheld.trans hcalib) hcal).trans ?_
      rw [show held.openChoices = s.openChoices from hchoices]
      rfl

end Sys2Proof.Machine

/-! Line frames of the scan head (R13, R203, R209): the 132 bytes of a frame and the line they carry, and the bytes of
the link gathered into frames. -/

namespace Sys2Proof.Machine

/-! ### Cells in bytes (R209) -/

/-- The number whose digits in base 256 the bytes are, least significant first. -/
def bytesValue (l : List Byte) : Nat := l.foldr (fun b acc => b.toNat + 256 * acc) 0

theorem bytesValue_cons (b : Byte) (l : List Byte) : bytesValue (b :: l) = b.toNat + 256 * bytesValue l := rfl

theorem bytesValue_digit (l : List Byte) (k : Nat) :
    BitVec.ofNat 8 (bytesValue l / 256 ^ k) = l.getD k 0#8 := by
  induction l generalizing k with
  | nil => simp [bytesValue]
  | cons b rest ih =>
    have hb : b.toNat < 256 := b.isLt
    cases k with
    | zero =>
      refine BitVec.eq_of_toNat_eq ?_
      simp only [bytesValue_cons, Nat.pow_zero, Nat.div_one, List.getD_cons_zero, BitVec.toNat_ofNat]
      omega
    | succ k =>
      have hrest : (b.toNat + 256 * bytesValue rest) / 256 = bytesValue rest := by omega
      rw [bytesValue_cons, Nat.pow_succ', ← Nat.div_div_eq_div_mul, hrest, ih, List.getD_cons_succ]

theorem bytesValue_lt (l : List Byte) : bytesValue l < 256 ^ l.length := by
  induction l with
  | nil => exact Nat.one_pos
  | cons b rest ih =>
    have hb : b.toNat < 256 := b.isLt
    rw [bytesValue_cons, List.length_cons, Nat.pow_succ']
    omega

theorem bytesValue_digits (x n : Nat) :
    bytesValue ((List.range n).map (fun k => BitVec.ofNat 8 (x / 256 ^ k))) = x % 256 ^ n := by
  induction n generalizing x with
  | zero => simp [bytesValue, Nat.mod_one]
  | succ n ih =>
    have hnext : (fun k => BitVec.ofNat 8 (x / 256 ^ k)) ∘ Nat.succ
        = fun k => BitVec.ofNat 8 (x / 256 / 256 ^ k) := by
      funext k
      rw [Function.comp_apply, Nat.succ_eq_add_one, Nat.pow_succ', Nat.div_div_eq_div_mul]
    rw [List.range_succ_eq_map, List.map_cons, List.map_map, hnext, bytesValue_cons, ih, Nat.pow_succ', Nat.mod_mul]
    simp

/-- Byte k of a line's readings. -/
theorem cellByte_eq (cells : Readings) (k : Nat) :
    cells.extractLsb' (8 * k) 8 = BitVec.ofNat 8 (cells.toNat / 256 ^ k) := by
  rw [BitVec.extractLsb', Nat.shiftRight_eq_div_pow, Nat.pow_mul]

/-- The cell bytes of a line's readings. -/
def cellBytes (cells : Readings) : List Byte := (List.range 128).map (fun k => cells.extractLsb' (8 * k) 8)

theorem cellBytes_length (cells : Readings) : (cellBytes cells).length = 128 := by
  rw [cellBytes, List.length_map, List.length_range]

theorem pow_256_128 : 256 ^ 128 = 2 ^ 1024 := by
  rw [show 256 = 2 ^ 8 from rfl, ← Nat.pow_mul]

theorem readingsOf_cellBytes (cells : Readings) : readingsOf (cellBytes cells) = cells := by
  have hvalue : bytesValue (cellBytes cells) = cells.toNat := by
    rw [cellBytes, List.map_congr_left fun k _ => cellByte_eq cells k, bytesValue_digits]
    exact Nat.mod_eq_of_lt (cells.isLt.trans_eq pow_256_128.symm)
  exact (congrArg (BitVec.ofNat 1024) hvalue).trans (BitVec.ofNat_toNat 1024 cells ▸ by simp)

theorem cellBytes_readingsOf {l : List Byte} (h : l.length = 128) : cellBytes (readingsOf l) = l := by
  have hvalue : (readingsOf l).toNat = bytesValue l := by
    refine (BitVec.toNat_ofNat _ _).trans (Nat.mod_eq_of_lt ?_)
    have hlt := bytesValue_lt l
    rw [h] at hlt
    exact hlt.trans_eq pow_256_128
  refine List.ext_getElem (by rw [cellBytes_length, h]) fun k hk hk' => ?_
  simp only [cellBytes, List.getElem_map, List.getElem_range, cellByte_eq, hvalue, bytesValue_digit,
    List.getD_eq_getElem _ _ hk']

/-! ### Line frames (R13, R209) -/

theorem lineFrameOf_eq (n : Byte) (cells : Readings) :
    lineFrameOf n cells = scanStartByte :: (n :: cellBytes cells ++ crcBytes (n :: cellBytes cells)) := rfl

theorem frameBody_lineFrameOf (n : Byte) (cells : Readings) : frameBody (lineFrameOf n cells) = n :: cellBytes cells := by
  have hlen : (n :: cellBytes cells).length = 129 := by rw [List.length_cons, cellBytes_length]
  have hdrop : (lineFrameOf n cells).drop 1 = n :: cellBytes cells ++ crcBytes (n :: cellBytes cells) := rfl
  rw [frameBody, hdrop]
  exact List.take_left' hlen

theorem lineFrameGood_lineFrameOf (n : Byte) (cells : Readings) : lineFrameGood (lineFrameOf n cells) = true := by
  have hlen : (lineFrameOf n cells).length = 132 := by
    simp [lineFrameOf_eq, cellBytes_length, crcBytes, bytes16]
  have hcrc : (lineFrameOf n cells).drop 130 = crcBytes (n :: cellBytes cells) := by
    rw [lineFrameOf_eq]
    exact List.drop_left' (l₁ := n :: cellBytes cells) (by simp [cellBytes_length])
  have hhead : (lineFrameOf n cells).head? = some scanStartByte := rfl
  simp only [lineFrameGood, frameBody_lineFrameOf, lineFrameSize, hlen, hcrc, hhead, decide_true, Bool.and_true]

/-- A frame of the right length, start byte and CRC is the frame of the line number and the readings it carries. -/
theorem eq_lineFrameOf {frame : List Byte} (h : lineFrameGood frame = true) :
    frame = lineFrameOf (frameNumber frame) (frameReadings frame) := by
  obtain ⟨hstart, hcrc⟩ := Bool.and_eq_true_iff.1 h
  obtain ⟨hlen, hhead⟩ := Bool.and_eq_true_iff.1 hstart
  replace hlen : frame.length = 132 := of_decide_eq_true hlen
  replace hhead := of_decide_eq_true hhead
  replace hcrc := of_decide_eq_true hcrc
  obtain ⟨b, number, rest, rfl⟩ : ∃ b number rest, frame = b :: number :: rest := by
    match frame, hlen with
    | b :: number :: rest, _ => exact ⟨b, number, rest, rfl⟩
  obtain rfl : b = scanStartByte := Option.some.inj hhead
  have hcells : (rest.take 128).length = 128 := by
    simp only [List.length_cons] at hlen
    rw [List.length_take]
    omega
  have hbody : frameBody (scanStartByte :: number :: rest) = number :: rest.take 128 := rfl
  have hrest : rest.drop 128 = crcBytes (number :: rest.take 128) := hcrc.trans (congrArg crcBytes hbody)
  have hreadings : cellBytes (frameReadings (scanStartByte :: number :: rest)) = rest.take 128 := by
    rw [frameReadings, hbody]
    exact cellBytes_readingsOf hcells
  rw [lineFrameOf_eq, hreadings]
  show _ = scanStartByte :: number :: (rest.take 128 ++ crcBytes (number :: rest.take 128))
  rw [← hrest, List.take_append_drop]

theorem exec_lineFrame (frame : List Byte) (s : State) :
    exec (.lineFrame frame) s = unlessReset s (lineFrameArrives frame) := rfl

/-- The frame of the outstanding line is handed on as an ACCEPTED line (R13, R17). -/
theorem lineFrameArrives_outstanding {s : State} {n : Count} (h : s.slr.outstanding = some n) (cells : Readings) :
    lineFrameArrives (lineFrameOf (n.extractLsb' 0 8) cells) s = handOnLine n cells .accepted
      { s with slr := { s.slr with outstanding := none, lastGood := cells, badCount := 0 } } := by
  have hreadings : frameReadings (lineFrameOf (n.extractLsb' 0 8) cells) = cells := by
    rw [frameReadings, frameBody_lineFrameOf]
    exact readingsOf_cellBytes cells
  simp only [lineFrameArrives, h]
  rw [if_pos ⟨lineFrameGood_lineFrameOf _ _, rfl⟩, hreadings]

/-- Any other frame changes nothing (R13). -/
theorem lineFrameArrives_other {frame : List Byte} {s : State}
    (h : ∀ n cells, s.slr.outstanding = some n → frame ≠ lineFrameOf (n.extractLsb' 0 8) cells) :
    lineFrameArrives frame s = s := by
  unfold lineFrameArrives
  split
  · rfl
  · rename_i n hn
    refine if_neg fun hgood => h n (frameReadings frame) hn ?_
    rw [← hgood.2]
    exact eq_lineFrameOf hgood.1

/-! ### The link (R203) -/

/-- The state with these bytes of a frame gathered on the scan head link. -/
def State.scanGathered (bytes : List Byte) (s : State) : State := { s with slr := { s.slr with gathered := bytes } }

section Link
variable {b : Byte} {s : State}

theorem scanByteArrives_start (h : s.slr.gathered = []) :
    scanByteArrives b s = s.scanGathered (if b = 0x5A#8 then [b] else []) := by
  have hsame : s = s.scanGathered [] := by
    rw [State.scanGathered, ← h]
  simp only [scanByteArrives, h]
  by_cases hb : b = 0x5A#8
  · rw [if_pos hb]
    exact if_pos hb
  · rw [if_neg hb]
    exact (if_neg hb).trans hsame

theorem scanByteArrives_more (h : s.slr.gathered ≠ []) (hlen : s.slr.gathered.length < 131) :
    scanByteArrives b s = s.scanGathered (s.slr.gathered ++ [b]) := by
  unfold scanByteArrives
  split
  · rename_i hnil
    exact absurd hnil h
  · rename_i first rest hcons
    rw [hcons] at hlen ⊢
    have hshort : ¬(first :: rest ++ [b]).length = lineFrameSize := by
      rw [List.length_append, lineFrameSize]
      simp only [List.length_singleton]
      omega
    exact if_neg hshort

theorem scanByteArrives_last (hlen : s.slr.gathered.length = 131) :
    scanByteArrives b s = lineFrameArrives (s.slr.gathered ++ [b]) (s.scanGathered []) := by
  unfold scanByteArrives
  split
  · rename_i hnil
    rw [hnil] at hlen
    exact absurd hlen nofun
  · rename_i first rest hcons
    rw [hcons] at hlen ⊢
    have hfull : (first :: rest ++ [b]).length = lineFrameSize := by
      rw [List.length_append, hlen]
      rfl
    exact if_pos hfull

theorem exec_scanLinkByte (h : s.pins.resetAsserted = false) (b : Byte) :
    exec (.scanLinkByte b) s = .next (scanByteArrives b s) := unlessReset_released h _

end Link

/-- The bytes of a frame under way, one after another, up to its last but one. -/
theorem execAll_scanBytes {s : State} (h : s.pins.resetAsserted = false) (more : List Instr) (bytes : List Byte)
    {front : List Byte} (hfront : front ≠ []) (hlen : front.length + bytes.length ≤ 131) :
    execAll (bytes.map Instr.scanLinkByte ++ more) (s.scanGathered front)
      = execAll more (s.scanGathered (front ++ bytes)) := by
  induction bytes generalizing front with
  | nil => rw [List.append_nil, List.map_nil, List.nil_append]
  | cons b rest ih =>
    simp only [List.length_cons] at hlen
    have hstep : exec (.scanLinkByte b) (s.scanGathered front) = .next (s.scanGathered (front ++ [b])) :=
      (exec_scanLinkByte (s := s.scanGathered front) h b).trans
        (congrArg _ (scanByteArrives_more (s := s.scanGathered front) hfront (by
          show front.length < 131
          omega)))
    simp only [List.map_cons, List.cons_append, execAll, hstep]
    rw [ih (by simp) (by rw [List.length_append, List.length_singleton]; omega), List.append_assoc,
      List.singleton_append]

theorem execAll_asserted {s : State} (h : s.pins.resetAsserted = true) (bytes : List Byte) :
    execAll (bytes.map Instr.scanLinkByte) s = .next s := by
  induction bytes with
  | nil => rfl
  | cons b rest ih =>
    have hstep : exec (.scanLinkByte b) s = .next s := unlessReset_asserted h _
    simp only [List.map_cons, execAll, hstep, ih]

theorem execAll_singleton (c : Instr) (s : State) : execAll [c] s = exec c s := by
  simp only [execAll]
  split <;> rename_i h <;> exact h.symm

/-- The 132 bytes of a frame that starts with the start byte act as that frame (R203, R209). -/
theorem execAll_frame {frame : List Byte} {s : State} (hidle : s.slr.gathered = []) (hlen : frame.length = 132)
    (hhead : frame.head? = some 0x5A#8) :
    execAll (frame.map Instr.scanLinkByte) s = exec (.lineFrame frame) s := by
  cases hreset : s.pins.resetAsserted with
  | true =>
    rw [execAll_asserted hreset, exec_lineFrame, unlessReset_asserted hreset]
  | false =>
    obtain ⟨b, rest, rfl⟩ := List.exists_cons_of_ne_nil (l := frame) (fun h => by rw [h] at hlen; exact absurd hlen nofun)
    obtain rfl : b = 0x5A#8 := Option.some.inj hhead
    obtain ⟨bytes, last, rfl⟩ : ∃ bytes last, rest = bytes ++ [last] :=
      (List.eq_nil_or_concat' rest).resolve_left (fun h => by rw [h] at hlen; exact absurd hlen nofun)
    have hbytes : bytes.length = 130 := by
      simp only [List.length_cons, List.length_append, List.length_nil] at hlen
      omega
    have hfirst : exec (.scanLinkByte 0x5A#8) s = .next (s.scanGathered [0x5A#8]) :=
      (exec_scanLinkByte hreset _).trans (congrArg _ (scanByteArrives_start hidle))
    have hsame : s.scanGathered [] = s := by
      rw [State.scanGathered, ← hidle]
    have hlast : exec (.scanLinkByte last) (s.scanGathered (0x5A#8 :: bytes))
        = .next (lineFrameArrives (0x5A#8 :: bytes ++ [last]) s) := by
      refine (exec_scanLinkByte (s := s.scanGathered (0x5A#8 :: bytes)) hreset last).trans (congrArg _ ?_)
      refine (scanByteArrives_last (s := s.scanGathered (0x5A#8 :: bytes)) ?_).trans
        (congrArg (lineFrameArrives _) hsame)
      exact (List.length_cons ..).trans (by rw [hbytes])
    have hmap : (0x5A#8 :: (bytes ++ [last])).map Instr.scanLinkByte
        = .scanLinkByte 0x5A#8 :: (bytes.map Instr.scanLinkByte ++ [.scanLinkByte last]) := by simp
    rw [hmap, execAll]
    simp only [hfirst]
    rw [execAll_scanBytes hreset [.scanLinkByte last] bytes (List.cons_ne_nil _ _) (by simp [hbytes]),
      execAll_singleton, List.singleton_append, hlast, exec_lineFrame, unlessReset_released hreset]
    rfl

/-- Settles O9: bytes gathered, a whole frame, and a frame that is not the outstanding line's. -/
theorem scanLinkGathersLineFrames : Obligations.ScanLinkGathersLineFrames := by
  refine ⟨fun b s h => ?_, fun frame s hidle hlen hhead => execAll_frame hidle hlen hhead, fun frame s h => ?_⟩
  · rw [exec_scanLinkByte h]
    exact ⟨fun hidle => congrArg _ (scanByteArrives_start hidle),
      fun hmore hlen => congrArg _ (scanByteArrives_more hmore hlen), unlessReset_released h _⟩
  · rw [exec_lineFrame, unlessReset, lineFrameArrives_other h, ite_self]

end Sys2Proof.Machine

/-! The line frame accepted, and the stuck monitor after it (R13, R17, R30, R31). The examination of the counters is the
fold of the cells that become stuck, whose mask list and records are followed step by step. -/

namespace Sys2Proof.Machine

/-! ### The counters (R30) -/

/-- The counter of a cell after a line: one more where it reads covered, and 0 where it does not (R30). -/
def counterAfter (raw : Readings) (counters : List Nat) (i : Nat) : Nat :=
  if raw.getLsbD i then min (counters.getD i 0 + 1) 65535 else 0

theorem countCells_eq (raw : Readings) (i : Nat) (counters : List Nat) : countCells raw i counters =
    (List.range counters.length).map (fun j =>
      if raw.getLsbD (i + j) then min (counters.getD j 0 + 1) 65535 else 0) := by
  induction counters generalizing i with
  | nil => rfl
  | cons c rest ih =>
    rw [countCells, ih, List.length_cons, List.range_succ_eq_map, List.map_cons, List.map_map]
    refine congrArg₂ List.cons rfl (List.map_congr_left fun j _ => ?_)
    simp only [Function.comp_apply, Nat.succ_eq_add_one, List.getD_cons_succ, Nat.add_right_comm i 1 j, Nat.add_assoc]

theorem countCells_line (raw : Readings) {counters : List Nat} {n : Nat} (h : counters.length = n) :
    countCells raw 0 counters = (List.range n).map (counterAfter raw counters) := by
  rw [countCells_eq, h]
  simp only [Nat.zero_add]
  rfl

/-! ### The mask list (R31) -/

/-- A cell that is not on a rising list is inserted between those below it and those above it. -/
theorem insertIndex_eq {l : List Nat} (h : l.Pairwise (· < ·)) {i : Nat} (hnew : i ∉ l) :
    insertIndex i l = l.filter (fun j => decide (j < i)) ++ i :: l.filter (fun j => decide (i < j)) := by
  induction l with
  | nil => rfl
  | cons x xs ih =>
    obtain ⟨hx, hxs⟩ := List.pairwise_cons.1 h
    obtain ⟨hne, hnew⟩ := not_or.1 (mt List.mem_cons.2 hnew)
    simp only [insertIndex, insertBy, id_eq]
    by_cases hlt : i < x
    · have hbelow : xs.filter (fun j => decide (j < i)) = [] :=
        List.filter_eq_nil_iff.2 fun j hj => by
          have := hx j hj
          simpa using by omega
      have habove : xs.filter (fun j => decide (i < j)) = xs :=
        List.filter_eq_self.2 fun j hj => by
          have := hx j hj
          simpa using by omega
      simp [hlt, Nat.not_lt.2 (Nat.le_of_lt hlt), hbelow, habove]
    · have hgt : x < i := by omega
      have htail := ih hxs hnew
      simp only [insertIndex] at htail
      simp [hlt, hgt, htail]

/-- What one cell that becomes stuck makes of the mask list (R31). -/
def maskAfter (auto : Bool) (mask : List Nat) (i : Nat) : List Nat :=
  if auto = true ∧ i ∉ mask ∧ mask.length < 32 then
    mask.filter (fun j => decide (j < i)) ++ i :: mask.filter (fun j => decide (i < j))
  else mask

theorem pairwise_maskAfter {auto : Bool} {mask : List Nat} (h : mask.Pairwise (· < ·)) (i : Nat) :
    (maskAfter auto mask i).Pairwise (· < ·) := by
  unfold maskAfter
  split
  · rename_i hadd
    rw [← insertIndex_eq h hadd.2.1]
    exact pairwise_insertIndex h hadd.2.1
  · exact h

theorem mem_maskAfter {auto : Bool} {mask : List Nat} {i j : Nat} (hj : j ∈ maskAfter auto mask i) :
    j ∈ mask ∨ j = i := by
  unfold maskAfter at hj
  split at hj
  · obtain hj | hj := List.mem_append.1 hj
    · exact .inl (List.mem_filter.1 hj).1
    · obtain rfl | hj := List.mem_cons.1 hj
      · exact .inr rfl
      · exact .inl (List.mem_filter.1 hj).1
  · exact .inl hj

theorem mem_maskAfter_of_mem {auto : Bool} {mask : List Nat} {i j : Nat} (hj : j ∈ mask) :
    j ∈ maskAfter auto mask i := by
  unfold maskAfter
  split
  · rename_i hadd
    have hne : j ≠ i := fun h => hadd.2.1 (h ▸ hj)
    obtain hlt | hgt := Nat.lt_or_gt_of_ne hne
    · exact List.mem_append_left _ (List.mem_filter.2 ⟨hj, decide_eq_true hlt⟩)
    · exact List.mem_append_right _ (List.mem_cons_of_mem _ (List.mem_filter.2 ⟨hj, decide_eq_true hgt⟩))
  · exact hj

/-! ### Cells that become stuck (R31) -/

/-- What one cell that becomes stuck makes of the mask list and the queue (R31). -/
def stuckReport (c : Settings) (line : Count) (counter : Nat → Nat) (a : List Nat × Rpq) (i : Nat) : List Nat × Rpq :=
  let mask := maskAfter c.autoMask a.1 i
  (mask, a.2.offer c (.cellStuck i line (counter i) (decide (i ∈ mask)) mask.length))

section Reports
variable {c : Settings} {line : Count} {counter : Nat → Nat}

theorem stuckReports_mask_kept {a : List Nat × Rpq} {j : Nat} (hj : j ∈ a.1) (stuck : List Nat) :
    j ∈ (stuck.foldl (stuckReport c line counter) a).1 := by
  induction stuck generalizing a with
  | nil => exact hj
  | cons i rest ih => exact ih (mem_maskAfter_of_mem hj)

theorem stuckReports_mask_new {a : List Nat × Rpq} {j : Nat} {stuck : List Nat}
    (hj : j ∈ (stuck.foldl (stuckReport c line counter) a).1) : j ∈ a.1 ∨ j ∈ stuck := by
  induction stuck generalizing a with
  | nil => exact .inl hj
  | cons i rest ih =>
    obtain hj | hj := ih hj
    · obtain hj | rfl := mem_maskAfter hj
      · exact .inl hj
      · exact .inr List.mem_cons_self
    · exact .inr (List.mem_cons_of_mem _ hj)

theorem stuckReports_mask_off (h : c.autoMask = false) (a : List Nat × Rpq) (stuck : List Nat) :
    (stuck.foldl (stuckReport c line counter) a).1 = a.1 := by
  induction stuck generalizing a with
  | nil => rfl
  | cons i rest ih =>
    refine (ih _).trans (if_neg fun hadd => ?_)
    rw [h] at hadd
    exact absurd hadd.1 nofun

end Reports

theorem cellStuck_eq {s : State} (h : s.lcn.mask.Pairwise (· < ·)) (line : Count) (i counter : Nat) :
    cellStuck line i counter s =
      let a := stuckReport s.settings line (fun _ => counter) (s.lcn.mask, s.rpq) i
      { s with lcn := { s.lcn with mask := a.1, marked := insertIndex i s.lcn.marked }, rpq := a.2 } := by
  have hmask : (if s.settings.autoMask && !decide (i ∈ s.lcn.mask) && decide (s.lcn.mask.length < Config.maskSize) then
      insertIndex i s.lcn.mask else s.lcn.mask) = maskAfter s.settings.autoMask s.lcn.mask i := by
    show (if (s.settings.autoMask && !decide (i ∈ s.lcn.mask) && decide (s.lcn.mask.length < 32)) = true then
      insertIndex i s.lcn.mask else s.lcn.mask) = _
    unfold maskAfter
    by_cases hadd : s.settings.autoMask = true ∧ i ∉ s.lcn.mask ∧ s.lcn.mask.length < 32
    · rw [if_pos hadd, if_pos, insertIndex_eq h hadd.2.1]
      simpa [and_assoc] using hadd
    · rw [if_neg hadd, if_neg]
      simpa [and_assoc] using hadd
  simp only [cellStuck, hmask]
  rfl

/-- The cells of a list become stuck one after another. -/
theorem foldl_cellStuck {s : State} (h : s.lcn.mask.Pairwise (· < ·)) (line : Count) (counter : Nat → Nat)
    (stuck : List Nat) : stuck.foldl (fun u i => cellStuck line i (counter i) u) s =
      let a := stuck.foldl (stuckReport s.settings line counter) (s.lcn.mask, s.rpq)
      { s with
        lcn := { s.lcn with
          mask := a.1, marked := stuck.foldl (fun marked i => insertIndex i marked) s.lcn.marked }
        rpq := a.2 } := by
  induction stuck generalizing s with
  | nil => rfl
  | cons i rest ih =>
    simp only [List.foldl_cons]
    rw [cellStuck_eq h]
    exact ih (pairwise_maskAfter h i)

theorem mem_foldl_insertIndex (stuck : List Nat) (marked : List Nat) (j : Nat) :
    j ∈ stuck.foldl (fun marked i => insertIndex i marked) marked ↔ j ∈ marked ∨ j ∈ stuck := by
  induction stuck generalizing marked with
  | nil => simp
  | cons i rest ih =>
    rw [List.foldl_cons, ih, insertIndex, mem_insertBy, List.mem_cons]
    tauto

/-- The examination takes the cells at or above the stuck limit that are not marked yet, in ascending order (R31). -/
theorem examineCells_foldl (line : Count) (counter : Nat → Nat) (n i : Nat) (s : State) :
    examineCells line i ((List.range' i n).map counter) s =
      ((List.range' i n).filter (fun j => decide (s.settings.stuckLimit ≤ counter j) && !decide (j ∈ s.lcn.marked))).foldl
        (fun u j => cellStuck line j (counter j) u) s := by
  induction n generalizing i s with
  | zero => rfl
  | succ n ih =>
    simp only [List.range'_succ, List.map_cons, examineCells]
    by_cases hstuck : s.settings.stuckLimit ≤ counter i ∧ i ∉ s.lcn.marked
    · have hfilter : ((List.range' (i + 1) n).filter (fun j => decide (s.settings.stuckLimit ≤ counter j)
          && !decide (j ∈ insertIndex i s.lcn.marked)))
          = (List.range' (i + 1) n).filter (fun j => decide (s.settings.stuckLimit ≤ counter j)
            && !decide (j ∈ s.lcn.marked)) := by
        refine List.filter_congr fun j hj => ?_
        have hne : j ≠ i := by
          have := (List.mem_range'_1.1 hj).1
          omega
        simp [insertIndex, hne]
      rw [if_pos hstuck, ih, List.filter_cons_of_pos (by simpa using hstuck), List.foldl_cons]
      exact congrArg (fun l => List.foldl _ _ l) hfilter
    · rw [if_neg hstuck, ih, List.filter_cons_of_neg (by simpa using hstuck)]

/-- The cells of a line of n that become stuck at these counters (R31). -/
def newlyStuck (n limit : Nat) (counter : Nat → Nat) (marked : List Nat) : List Nat :=
  (List.range n).filter (fun i => decide (limit ≤ counter i) && !decide (i ∈ marked))

/-- The stuck monitor: the counters move, and then the cells that become stuck are told one after another (R30, R31). -/
theorem stuckMonitor_foldl {s : State} {n : Nat} (hcount : s.lcn.counters.length = n) (hmask : s.lcn.mask.Pairwise (· < ·))
    {line : Count} {raw : Readings} {counter : Nat → Nat} {stuck : List Nat} {a : List Nat × Rpq}
    (hcounter : counter = counterAfter raw s.lcn.counters)
    (hstuck : stuck = newlyStuck n s.settings.stuckLimit counter s.lcn.marked)
    (ha : a = stuck.foldl (stuckReport s.settings line counter) (s.lcn.mask, s.rpq)) :
    ∃ lcn, stuckMonitor line raw s = { s with lcn := lcn, rpq := a.2 } ∧ lcn.mask = a.1 ∧ lcn.widths = s.lcn.widths
      ∧ lcn.counters = (List.range n).map counter
      ∧ lcn.marked = stuck.foldl (fun marked i => insertIndex i marked) s.lcn.marked := by
  refine ⟨⟨s.lcn.widths, a.1, (List.range n).map counter, stuck.foldl (fun marked i => insertIndex i marked)
    s.lcn.marked⟩, ?_, rfl, rfl, rfl, rfl⟩
  simp only [stuckMonitor, countCells_line raw hcount, ← hcounter]
  rw [List.range_eq_range', examineCells_foldl, ← List.range_eq_range', ha, hstuck]
  exact foldl_cellStuck (s := { s with lcn := { s.lcn with counters := (List.range n).map counter } }) hmask line _ _

/-! ### The frame accepted -/

/-- Settles O8: the line is taken, and the stuck monitor sees it. -/
theorem lineFrameIsAccepted : Obligations.LineFrameIsAccepted := by
  intro cells n g s hrel hout hgrid hcount hmask u counter stuck report after
  obtain ⟨htk, hm⟩ := lineTaken_measuring n (g.origin + n * BitVec.ofNat 32 s.settings.lineInterval)
    (runList s.settings s.lcn cells)
    { s with slr := { s.slr with outstanding := none, lastGood := cells, badCount := 0 } }
  obtain ⟨gain, hset⟩ := hm.settings
  have hlcn : u.lcn = s.lcn := hm.lcn
  have hlimit : u.settings.stuckLimit = s.settings.stuckLimit := (congrArg Settings.stuckLimit hset :)
  have hauto : u.settings.autoMask = s.settings.autoMask := (congrArg Settings.autoMask hset :)
  have hreport : stuckReport u.settings n counter = report := by
    funext a i
    simp only [stuckReport, maskAfter, hauto]
    rfl
  have hpos : gridLinePos n { s with slr := { s.slr with outstanding := none, lastGood := cells, badCount := 0 } }
      = g.origin + n * BitVec.ofNat 32 s.settings.lineInterval := by
    simp only [gridLinePos, hgrid]
    rfl
  have haccepted : handOnLine n cells .accepted
      { s with slr := { s.slr with outstanding := none, lastGood := cells, badCount := 0 } } = stuckMonitor n cells u := by
    simp only [handOnLine, conditionLine, hpos, trackLine_eq_lineTaken]
    rfl
  obtain ⟨lcn, hmonitor, hmasks, hwidths, hcounters, hmarked⟩ := stuckMonitor_foldl (s := u) (n := 1024) (line := n)
    (raw := cells) (counter := counter) (stuck := stuck) (a := after) (by rw [hlcn]; exact hcount)
    (by rw [hlcn]; exact hmask) (by rw [hlcn]; rfl) (by rw [hlcn, hlimit]; rfl) (by rw [hlcn, hreport])
  rw [hlcn] at hwidths hmarked
  refine ⟨lcn, ?_, hmasks, hwidths, hcounters, fun i hi => ?_, fun hoff => ?_, fun i hi => ?_, fun i hi => ?_, hm.slr,
    hlcn, hm.tcu, hm.mdc, hm.cml, hm.pins⟩
  · rw [exec_lineFrame, unlessReset_released hrel, lineFrameArrives_outstanding hout, haccepted, hmonitor]
  · rw [hmarked, mem_foldl_insertIndex, List.mem_filter, List.mem_range]
    simp only [hi, true_and, Bool.and_eq_true, decide_eq_true_eq, Bool.not_eq_true', decide_eq_false_iff_not]
    tauto
  · rw [hmasks]
    simp only [after]
    rw [← hreport]
    exact stuckReports_mask_off (hauto.trans hoff) _ _
  · rw [hmasks]
    simp only [after]
    rw [← hreport]
    exact stuckReports_mask_kept hi _
  · rw [hmasks] at hi
    simp only [after] at hi
    rw [← hreport] at hi
    rw [hmarked, mem_foldl_insertIndex]
    exact (stuckReports_mask_new hi).imp_right .inr

end Sys2Proof.Machine

/-! The conditioning of a line (R18, R22, R25 to R29): masked cells, bridged runs, and the run list with its cap. -/

namespace Sys2Proof.Machine

/-! ### Masking (R22) -/

section Masking
variable {mask : List Nat} {raw : Readings} {i : Nat}

theorem nearestBelow_some {l : Nat} (hl : l ∉ mask) (hlt : l < i) (hbetween : ∀ j, l < j → j < i → j ∈ mask) :
    nearestBelow mask i = some l := by
  induction i with
  | zero => exact absurd hlt (Nat.not_lt_zero l)
  | succ k ih =>
    rw [nearestBelow]
    obtain rfl | hlt := Nat.eq_or_lt_of_le (Nat.le_of_lt_succ hlt)
    · exact if_neg hl
    · rw [if_pos (hbetween k hlt (Nat.lt_succ_self k))]
      exact ih hlt fun j hj hjk => hbetween j hj (Nat.lt_succ_of_lt hjk)

theorem nearestBelow_none (hall : ∀ j, j < i → j ∈ mask) : nearestBelow mask i = none := by
  induction i with
  | zero => rfl
  | succ k ih =>
    rw [nearestBelow, if_pos (hall k (Nat.lt_succ_self k))]
    exact ih fun j hj => hall j (Nat.lt_succ_of_lt hj)

theorem nearestAbove_some {r n : Nat} (hr : r ∉ mask) (hle : i ≤ r) (hlt : r < i + n)
    (hbetween : ∀ j, i ≤ j → j < r → j ∈ mask) : nearestAbove mask i n = some r := by
  induction n generalizing i with
  | zero => exact absurd hlt (Nat.not_lt.2 hle)
  | succ k ih =>
    rw [nearestAbove]
    obtain rfl | hlt' := Nat.eq_or_lt_of_le hle
    · exact if_neg hr
    · rw [if_pos (hbetween i (Nat.le_refl i) hlt')]
      exact ih hlt' (by omega) fun j hj hjr => hbetween j (Nat.le_of_succ_le hj) hjr

theorem nearestAbove_none {n : Nat} (hall : ∀ j, i ≤ j → j < i + n → j ∈ mask) : nearestAbove mask i n = none := by
  induction n generalizing i with
  | zero => rfl
  | succ k ih =>
    rw [nearestAbove, if_pos (hall i (Nat.le_refl i) (by omega))]
    exact ih fun j hj hjn => hall j (Nat.le_of_succ_le hj) (by omega)

/-- A masked cell reads as its nearest unmasked neighbours do (R22). -/
theorem effective_between {l r : Nat} (hi : i ∈ mask) (hbelow : nearestBelow mask i = some l)
    (habove : nearestAbove mask (i + 1) (Config.cells - (i + 1)) = some r) :
    effective mask raw i = (raw.getLsbD l && raw.getLsbD r) := by
  simp only [effective, if_pos hi, hbelow, habove]

theorem effective_first {r : Nat} (hi : i ∈ mask) (hbelow : nearestBelow mask i = none)
    (habove : nearestAbove mask (i + 1) (Config.cells - (i + 1)) = some r) :
    effective mask raw i = raw.getLsbD r := by
  simp only [effective, if_pos hi, hbelow, habove]

theorem effective_last {l : Nat} (hi : i ∈ mask) (hbelow : nearestBelow mask i = some l)
    (habove : nearestAbove mask (i + 1) (Config.cells - (i + 1)) = none) :
    effective mask raw i = raw.getLsbD l := by
  simp only [effective, if_pos hi, hbelow, habove]

end Masking

/-! ### Bridging (R26) -/

/-- The runs rise, each non-empty and with an uncovered cell before the next (R25). -/
def RunsRise (l : List Span) : Prop := l.Pairwise (fun a b => a.last + 1 < b.first) ∧ ∀ t ∈ l, t.first ≤ t.last

theorem RunsRise.of_cons {t : Span} {l : List Span} (h : RunsRise (t :: l)) :
    t.first ≤ t.last ∧ (∀ u ∈ l, t.last + 1 < u.first) ∧ RunsRise l := by
  obtain ⟨hrise, hwhole⟩ := h
  obtain ⟨ht, hl⟩ := List.pairwise_cons.1 hrise
  obtain ⟨hthis, hthese⟩ := List.forall_mem_cons.1 hwhole
  exact ⟨hthis, ht, hl, hthese⟩

theorem RunsRise.cons {t : Span} {l : List Span} (ht : t.first ≤ t.last) (hl : RunsRise l)
    (hbefore : ∀ u ∈ l, t.last + 1 < u.first) : RunsRise (t :: l) :=
  ⟨List.pairwise_cons.2 ⟨hbefore, hl.1⟩, List.forall_mem_cons.2 ⟨ht, hl.2⟩⟩

/-- Two runs joined over the gap between them. -/
theorem RunsRise.join {cur r : Span} {rest : List Span} (h : RunsRise (cur :: r :: rest)) :
    RunsRise (⟨cur.first, r.last⟩ :: rest) := by
  obtain ⟨hcur, hafter, hr⟩ := h.of_cons
  obtain ⟨hrun, hlater, hrest⟩ := hr.of_cons
  have := hafter r List.mem_cons_self
  exact .cons (show cur.first ≤ r.last by omega) hrest hlater

/-- A cell of one of the runs. -/
def inRuns (l : List Span) (k : Nat) : Prop := ∃ t ∈ l, t.first ≤ k ∧ k ≤ t.last

theorem inRuns_cons {t : Span} {l : List Span} {k : Nat} :
    inRuns (t :: l) k ↔ (t.first ≤ k ∧ k ≤ t.last) ∨ inRuns l k := by
  simp [inRuns]

theorem inRuns_above {l : List Span} {n k : Nat} (h : ∀ u ∈ l, n < u.first) (hk : inRuns l k) : n < k := by
  obtain ⟨t, ht, hfirst, -⟩ := hk
  exact Nat.lt_of_lt_of_le (h t ht) hfirst

/-- A cell between two cells of the runs with at most `bridge` cells from one to the other, or one of them. -/
def bridged (bridge : Nat) (l : List Span) (k : Nat) : Prop :=
  ∃ i j, inRuns l i ∧ inRuns l j ∧ i ≤ k ∧ k ≤ j ∧ j ≤ i + bridge + 1

theorem bridged_of_inRuns {bridge : Nat} {l : List Span} {k : Nat} (h : inRuns l k) : bridged bridge l k :=
  ⟨k, k, h, h, Nat.le_refl k, Nat.le_refl k, by omega⟩

/-- A bridged gap joins its two runs and covers nothing else (R26). -/
theorem bridged_join {bridge : Nat} {cur r : Span} {rest : List Span} (h : RunsRise (cur :: r :: rest))
    (hgap : r.first - cur.last - 1 ≤ bridge) (k : Nat) :
    bridged bridge (⟨cur.first, r.last⟩ :: rest) k ↔ bridged bridge (cur :: r :: rest) k := by
  obtain ⟨hcur, hafter, hr⟩ := h.of_cons
  obtain ⟨hrun, hlater, -⟩ := hr.of_cons
  have hbetween := hafter r List.mem_cons_self
  have widen {n : Nat} (hn : inRuns (cur :: r :: rest) n) : inRuns (⟨cur.first, r.last⟩ :: rest) n := by
    simp only [inRuns_cons] at hn ⊢
    obtain hn | hn | hn := hn
    · exact .inl (by omega)
    · exact .inl (by omega)
    · exact .inr hn
  constructor
  · rintro ⟨i, j, hi, hj, hik, hkj, hij⟩
    rw [inRuns_cons] at hi hj
    by_cases hbelow : k ≤ r.last
    · have hfrom : cur.first ≤ k := by
        obtain hi | hi := hi
        · exact Nat.le_trans hi.1 hik
        · have := inRuns_above hlater hi
          omega
      by_cases hin : k ≤ cur.last ∨ r.first ≤ k
      · refine bridged_of_inRuns ?_
        simp only [inRuns_cons]
        omega
      · refine ⟨cur.last, r.first, ?_, ?_, by omega, by omega, by omega⟩
        · simp only [inRuns_cons]
          omega
        · simp only [inRuns_cons]
          omega
    · have hj' : inRuns rest j := hj.resolve_left (by simp only; omega)
      obtain hi | hi := hi
      · refine ⟨r.last, j, ?_, ?_, by omega, hkj, ?_⟩
        · simp only [inRuns_cons]
          omega
        · exact inRuns_cons.2 (.inr (inRuns_cons.2 (.inr hj')))
        · simp only at hi
          omega
      · exact ⟨i, j, inRuns_cons.2 (.inr (inRuns_cons.2 (.inr hi))), inRuns_cons.2 (.inr (inRuns_cons.2 (.inr hj'))),
          hik, hkj, hij⟩
  · rintro ⟨i, j, hi, hj, hk⟩
    exact ⟨i, j, widen hi, widen hj, hk⟩

/-- A gap too wide to bridge parts the runs (R26). -/
theorem bridged_apart {bridge : Nat} {cur r : Span} {rest : List Span} (h : RunsRise (cur :: r :: rest))
    (hgap : bridge < r.first - cur.last - 1) (k : Nat) :
    bridged bridge (cur :: r :: rest) k ↔ (cur.first ≤ k ∧ k ≤ cur.last) ∨ bridged bridge (r :: rest) k := by
  obtain ⟨hcur, hafter, hr⟩ := h.of_cons
  obtain ⟨hrun, hlater, -⟩ := hr.of_cons
  have above {n : Nat} (hn : inRuns (r :: rest) n) : r.first ≤ n := by
    obtain hn | hn := inRuns_cons.1 hn
    · exact hn.1
    · have := inRuns_above hlater hn
      omega
  constructor
  · rintro ⟨i, j, hi, hj, hik, hkj, hij⟩
    obtain hi | hi := inRuns_cons.1 hi
    · obtain hj | hj := inRuns_cons.1 hj
      · exact .inl (by omega)
      · have := above hj
        omega
    · obtain hj | hj := inRuns_cons.1 hj
      · have := above hi
        omega
      · exact .inr ⟨i, j, hi, hj, hik, hkj, hij⟩
  · rintro (hk | ⟨i, j, hi, hj, hk⟩)
    · exact bridged_of_inRuns (inRuns_cons.2 (.inl hk))
    · exact ⟨i, j, inRuns_cons.2 (.inr hi), inRuns_cons.2 (.inr hj), hk⟩

theorem inRuns_bridgeFrom {bridge : Nat} {cur : Span} {runs : List Span} (h : RunsRise (cur :: runs)) (k : Nat) :
    inRuns (bridgeFrom bridge cur runs) k ↔ bridged bridge (cur :: runs) k := by
  induction runs generalizing cur with
  | nil =>
    have hone (n : Nat) : inRuns [cur] n ↔ cur.first ≤ n ∧ n ≤ cur.last := by simp [inRuns]
    refine ⟨bridged_of_inRuns, ?_⟩
    rintro ⟨i, j, hi, hj, hik, hkj, -⟩
    rw [hone] at hi hj
    exact (hone k).2 (by omega)
  | cons r rest ih =>
    rw [bridgeFrom]
    by_cases hgap : r.first - cur.last - 1 ≤ bridge
    · rw [if_pos hgap, ih h.join, bridged_join h hgap]
    · rw [if_neg hgap, inRuns_cons, ih h.of_cons.2.2, bridged_apart h (Nat.lt_of_not_le hgap)]

/-- Bridged runs start at their first run or above it, and end where a run ends. -/
theorem bridgeFrom_bounds {bridge : Nat} {cur : Span} {runs : List Span} (h : RunsRise (cur :: runs)) {n : Nat}
    (hn : ∀ t ∈ cur :: runs, t.last < n) :
    ∀ t ∈ bridgeFrom bridge cur runs, cur.first ≤ t.first ∧ t.first ≤ t.last ∧ t.last < n := by
  induction runs generalizing cur with
  | nil =>
    intro t ht
    obtain rfl := List.mem_singleton.1 ht
    exact ⟨Nat.le_refl _, h.of_cons.1, hn t List.mem_cons_self⟩
  | cons r rest ih =>
    obtain ⟨hcur, hafter, hr⟩ := h.of_cons
    have hbetween := hafter r List.mem_cons_self
    obtain ⟨hncur, hnrest⟩ := List.forall_mem_cons.1 hn
    rw [bridgeFrom]
    by_cases hgap : r.first - cur.last - 1 ≤ bridge
    · rw [if_pos hgap]
      exact ih h.join (List.forall_mem_cons.2 (List.forall_mem_cons.1 hnrest))
    · rw [if_neg hgap]
      refine List.forall_mem_cons.2 ⟨⟨Nat.le_refl _, hcur, hncur⟩, fun t ht => ?_⟩
      obtain ⟨hfirst, hrest⟩ := ih hr hnrest t ht
      exact ⟨by omega, hrest⟩

theorem bridgeFrom_separated {bridge : Nat} {cur : Span} {runs : List Span} (h : RunsRise (cur :: runs)) :
    (bridgeFrom bridge cur runs).Pairwise (fun a b => a.last + 1 + bridge < b.first) := by
  induction runs generalizing cur with
  | nil => exact List.pairwise_singleton _ _
  | cons r rest ih =>
    rw [bridgeFrom]
    by_cases hgap : r.first - cur.last - 1 ≤ bridge
    · rw [if_pos hgap]
      exact ih h.join
    · rw [if_neg hgap]
      have hr := h.of_cons.2.2
      obtain ⟨n, hn⟩ : ∃ n, ∀ t ∈ r :: rest, t.last < n :=
        ⟨((r :: rest).map (fun t => t.last)).sum + 1, fun t ht =>
          Nat.lt_succ_of_le (List.single_le_sum (fun _ _ => Nat.zero_le _) _ (List.mem_map_of_mem ht))⟩
      refine List.pairwise_cons.2 ⟨fun t ht => ?_, ih hr⟩
      have := (bridgeFrom_bounds hr hn t ht).1
      omega

/-- What bridging makes of runs that rise (R26). -/
theorem bridgeRuns_spec {bridge : Nat} {runs : List Span} (h : RunsRise runs) {n : Nat} (hn : ∀ t ∈ runs, t.last < n) :
    (∀ k, inRuns (bridgeRuns bridge runs) k ↔ bridged bridge runs k)
    ∧ (bridgeRuns bridge runs).Pairwise (fun a b => a.last + 1 + bridge < b.first)
    ∧ ∀ t ∈ bridgeRuns bridge runs, t.first ≤ t.last ∧ t.last < n := by
  cases runs with
  | nil =>
    refine ⟨fun k => ⟨fun h => ?_, fun h => ?_⟩, .nil, fun t ht => absurd ht List.not_mem_nil⟩
    · obtain ⟨t, ht, -⟩ := h
      exact absurd ht List.not_mem_nil
    · obtain ⟨i, -, ⟨t, ht, -⟩, -⟩ := h
      exact absurd ht List.not_mem_nil
  | cons r rest =>
    exact ⟨inRuns_bridgeFrom h, bridgeFrom_separated h, fun t ht => (bridgeFrom_bounds h hn t ht).2⟩

/-! ### The cap of 64 runs (R28) -/

theorem capRuns_short {runs : List Run} (h : runs.length ≤ 64) : capRuns runs = runs := if_pos h

theorem capRuns_long {runs : List Run} (h : 64 < runs.length) : capRuns runs = runs.take 63 ++
    [⟨((runs.drop 63).map (fun r => r.first)).headD 0, ((runs.drop 63).map (fun r => r.last)).getLastD 0,
      ((runs.drop 63).map (fun r => r.width)).sum⟩] := if_neg (Nat.not_le.2 h)

/-- A list of more than 64 runs is its first 63, its 64th and those above it. -/
theorem exists_parts_of_long {α : Type} {l : List α} (h : 64 < l.length) :
    ∃ m rest, l = l.take 63 ++ m :: rest ∧ l.drop 63 = m :: rest := by
  refine ⟨l[63], l.drop 64, ?_, List.drop_eq_getElem_cons (by omega)⟩
  rw [← List.drop_eq_getElem_cons (by omega), List.take_append_drop]

/-- The cap joins the 64th run and those above it, from its start to the end of the last (R28). -/
theorem capRuns_map_long {kept : List Span} (h : 64 < kept.length) (widths : List Nat) :
    capRuns (kept.map (measuredRun widths)) = (kept.take 63).map (measuredRun widths) ++
      [⟨(kept.getD 63 ⟨0, 0⟩).first, (kept.getLastD ⟨0, 0⟩).last,
        ((kept.drop 63).map (fun t => (measuredRun widths t).width)).sum⟩] := by
  have hfirst : (((kept.drop 63).map (measuredRun widths)).map (fun r => r.first)).headD 0
      = (kept.getD 63 ⟨0, 0⟩).first := by
    rw [List.drop_eq_getElem_cons (by omega), List.getD_eq_getElem _ _ (by omega)]
    rfl
  have hlast : (((kept.drop 63).map (measuredRun widths)).map (fun r => r.last)).getLastD 0
      = (kept.getLastD ⟨0, 0⟩).last := by
    rw [List.map_map, List.getLastD_eq_getLast?, List.getLast?_map, List.getLast?_drop, if_neg (by omega),
      List.getLastD_eq_getLast?]
    cases hkept : kept.getLast? with
    | none => rfl
    | some t => rfl
  rw [capRuns_long (by rwa [List.length_map]), ← List.map_take, ← List.map_drop, hfirst, hlast, List.map_map]
  rfl

/-- A run of the list: on the line, and wide enough to be kept. -/
def Run.keptOn (minRun n : Nat) (r : Run) : Prop := r.first ≤ r.last ∧ r.last < n ∧ minRun ≤ r.last - r.first + 1

/-- The cap keeps what the runs keep: at most 64 of them, on the line, wide enough and apart (R28). -/
theorem capRuns_spec {runs : List Run} {minRun n bridge : Nat} (hkept : ∀ r ∈ runs, r.keptOn minRun n)
    (hapart : runs.Pairwise (fun a b => a.last + 1 + bridge < b.first)) :
    (capRuns runs).length ≤ 64 ∧ (∀ r ∈ capRuns runs, r.keptOn minRun n)
    ∧ (capRuns runs).Pairwise (fun a b => a.last + 1 + bridge < b.first) := by
  by_cases hlen : runs.length ≤ 64
  · rw [capRuns_short hlen]
    exact ⟨hlen, hkept, hapart⟩
  obtain ⟨m, rest, hsplit, hdrop⟩ := exists_parts_of_long (Nat.lt_of_not_le hlen)
  have hlast : ((runs.drop 63).map (fun r => r.last)).getLastD 0 = ((m :: rest).getLast (List.cons_ne_nil m rest)).last := by
    rw [hdrop, List.getLastD_eq_getLast?, List.getLast?_map, List.getLast?_eq_getLast_of_ne_nil (List.cons_ne_nil m rest)]
    rfl
  rw [capRuns_long (Nat.lt_of_not_le hlen), hlast, hdrop]
  rw [hsplit] at hkept hapart
  obtain ⟨hbefore, hfrom, hcross⟩ := List.pairwise_append.1 hapart
  have hend := List.getLast_mem (List.cons_ne_nil m rest)
  have hm := hkept m (List.mem_append_right _ List.mem_cons_self)
  have hlastKept := hkept _ (List.mem_append_right _ hend)
  generalize (m :: rest).getLast (List.cons_ne_nil m rest) = z at hend hlastKept
  have hmz : m.first ≤ z.last ∧ m.last ≤ z.last := by
    obtain rfl | hz := List.mem_cons.1 hend
    · exact ⟨hm.1, Nat.le_refl _⟩
    · have hmz := (List.pairwise_cons.1 hfrom).1 z hz
      obtain ⟨hmwhole, -, -⟩ := hm
      obtain ⟨hzwhole, -, -⟩ := hlastKept
      omega
  refine ⟨?_, fun r hr => ?_, List.pairwise_append.2 ⟨hbefore, List.pairwise_singleton _ _, fun a ha b hb => ?_⟩⟩
  · rw [List.length_append, List.length_take, List.length_singleton]
    omega
  · obtain hr | hr := List.mem_append.1 hr
    · exact hkept r (List.mem_append_left _ hr)
    · obtain rfl := List.mem_singleton.1 hr
      obtain ⟨-, -, hwide⟩ := hm
      obtain ⟨-, hline, -⟩ := hlastKept
      exact ⟨hmz.1, hline, Nat.le_trans hwide (by simp only [List.map_cons, List.headD_cons]; omega)⟩
  · obtain rfl := List.mem_singleton.1 hb
    exact hcross a ha m List.mem_cons_self

/-! ### The run list -/

theorem effectiveList_length (mask : List Nat) (raw : Readings) : (effectiveList mask raw).length = 1024 := by
  rw [effectiveList, List.length_map, List.length_range]
  rfl

/-- The cells that read covered after masking, as the scan of the line sees them. -/
theorem getD_effectiveList (mask : List Nat) (raw : Readings) (i : Nat) :
    (effectiveList mask raw).getD i false = true ↔ i < 1024 ∧ effective mask raw i = true := by
  by_cases hi : i < 1024
  · rw [List.getD_eq_getElem _ _ (by rwa [effectiveList_length])]
    simp [effectiveList, hi]
  · rw [List.getD_eq_default _ _ (by rw [effectiveList_length]; exact Nat.not_lt.1 hi)]
    simp [hi]

/-- Settles O11: masking by the neighbours, bridging, and the cap of the runs that are long enough. -/
theorem maskingAndTheRunList : Obligations.MaskingAndTheRunList := by
  constructor
  · intro mask raw i hi
    refine ⟨fun hout => if_neg hout, fun hin l r hl hlout hlbetween hr hrline hrout hrbetween => ?_,
      fun hin hbelow r hr hrline hrout hrbetween => ?_, fun hin habove l hl hlout hlbetween => ?_⟩
    · exact effective_between hin (nearestBelow_some hlout hl hlbetween)
        (nearestAbove_some hrout hr (by simp only [Config.cells]; omega) hrbetween)
    · exact effective_first hin (nearestBelow_none hbelow)
        (nearestAbove_some hrout hr (by simp only [Config.cells]; omega) hrbetween)
    · exact effective_last hin (nearestBelow_some hlout hl hlbetween)
        (nearestAbove_none fun j hj hjn => habove j hj (by simp only [Config.cells] at hjn; omega))
  · intro c l raw covered bridgedRuns kept measured runs
    obtain ⟨hbounds, hseparated, hcells, -⟩ := runExtractionCoversTheCoveredCells (effectiveList l.mask raw)
    have hlength := effectiveList_length l.mask raw
    have hrise : RunsRise (extractRuns (effectiveList l.mask raw) 0 none) := ⟨hseparated, fun t ht => (hbounds t ht).1⟩
    have hline : ∀ t ∈ extractRuns (effectiveList l.mask raw) 0 none, t.last < 1024 := fun t ht =>
      hlength ▸ (hbounds t ht).2
    have hcovered (i : Nat) : inRuns (extractRuns (effectiveList l.mask raw) 0 none) i ↔ covered i :=
      (hcells i).symm.trans (getD_effectiveList l.mask raw i)
    obtain ⟨hbridged, happart, hwhole⟩ := bridgeRuns_spec (bridge := c.bridge) hrise hline
    have hkept : ∀ r ∈ kept.map measured, r.keptOn c.minRun 1024 := by
      intro r hr
      obtain ⟨t, ht, rfl⟩ := List.mem_map.1 hr
      obtain ⟨htb, htw⟩ := List.mem_filter.1 ht
      obtain ⟨hle, hlt⟩ := hwhole t htb
      exact ⟨hle, hlt, of_decide_eq_true htw⟩
    have hkeptApart : (kept.map measured).Pairwise (fun a b => a.last + 1 + c.bridge < b.first) :=
      List.pairwise_map.2 (happart.filter _)
    obtain ⟨hcount, hruns, hrunsApart⟩ := capRuns_spec hkept hkeptApart
    refine ⟨fun k => ?_, happart, hwhole, fun hshort => ?_, fun hlong => ?_, hcount, hruns, hrunsApart⟩
    · refine (hbridged k).trans (exists_congr fun i => exists_congr fun j => ?_)
      rw [hcovered, hcovered]
    · exact capRuns_short (by rwa [List.length_map])
    · exact capRuns_map_long hlong l.widths

end Sys2Proof.Machine

/-! The sale figure and the reference of a calibration (R64 to R69, R79 to R85). -/

namespace Sys2Proof.Machine

/-! ### Rounding -/

/-- Half up by an even divisor (section 0.7). -/
theorem halfUp_even (n h : Nat) : halfUp n (2 * h) = (2 * n + 2 * h) / (2 * (2 * h)) := by
  rw [halfUp, Nat.mul_div_cancel_left h Nat.two_pos, ← Nat.mul_add, Nat.mul_div_mul_left _ _ Nat.two_pos]

theorem correctedArea_eq (raw gain : Nat) : correctedArea raw gain = (2 * raw * gain + 100000) / 200000 := by
  rw [Nat.mul_assoc]
  exact halfUp_even (raw * gain) 50000

/-- The figure of a unit before its limit, by its numerator and divisor (R67, R68). -/
theorem unclampedFigure_eq (u : SaleUnit) (r : Rounding) (area : Nat) : unclampedFigure u r area =
    match r with
    | .nearest => (2 * (figureTerms u area).1 + (figureTerms u area).2.1) / (2 * (figureTerms u area).2.1)
    | .down => (figureTerms u area).1 / (figureTerms u area).2.1 := by
  cases r with
  | down => rfl
  | nearest =>
    cases u with
    | quarterFoot => exact halfUp_even (area * 400) 4645152
    | tenthFoot => exact halfUp_even (area * 1000) 4645152
    | decimetre => exact halfUp_even area 5000

/-! ### The sale figure (R66, R68, R69) -/

section SaleFigure
variable {c : Settings} {area : Nat} {flags : FlagSet}

theorem saleFigure_small (h : hasFlag flags .ref = false ∧ area < c.minArea) :
    saleFigure c area flags = (0, flags ||| 0x0080#16) := if_pos h

theorem saleFigure_of_limit {figure limit : Nat} (h : ¬(hasFlag flags .ref = false ∧ area < c.minArea))
    (hfigure : unclampedFigure c.saleUnit c.rounding area = figure) (hlimit : figureLimit c.saleUnit = limit) :
    saleFigure c area flags = (min figure limit, if limit < figure then flags ||| 0x0100#16 else flags) := by
  subst hfigure hlimit
  rw [saleFigure, if_neg h]
  simp only
  by_cases hover : figureLimit c.saleUnit < unclampedFigure c.saleUnit c.rounding area
  · rw [if_pos hover, if_pos hover, Nat.min_eq_right (Nat.le_of_lt hover)]
    rfl
  · rw [if_neg hover, if_neg hover, Nat.min_eq_left (Nat.le_of_not_lt hover)]

end SaleFigure

end Sys2Proof.Machine

namespace Sys2Proof

open Machine

/-- Settles O19: the corrected area by its rounding, and the figure of a hide that is SMALL or not. -/
theorem saleFigure : Obligations.SaleFigure := by
  intro c widths h raw flags m small numerator divisor limit quotient
  have harea : m.area = correctedArea raw c.gain := rfl
  have hfigure : m.figure = (Machine.saleFigure c m.area flags).1 := rfl
  have hflags : m.flags = (Machine.saleFigure c m.area flags).2 := rfl
  have hquotient : unclampedFigure c.saleUnit c.rounding m.area = quotient := by
    rw [unclampedFigure_eq]
    simp only [quotient, numerator, divisor]
    cases c.saleUnit <;> rfl
  have hlimit : figureLimit c.saleUnit = limit := by
    simp only [limit]
    cases c.saleUnit <;> rfl
  refine ⟨harea.trans (correctedArea_eq raw c.gain), rfl, fun hsmall => ?_, fun hlarge => ?_⟩
  · rw [hfigure, hflags, saleFigure_small hsmall]
    exact ⟨rfl, rfl⟩
  · rw [hfigure, hflags, saleFigure_of_limit hlarge hquotient hlimit]
    exact ⟨rfl, rfl⟩

end Sys2Proof

namespace Sys2Proof.Machine

/-! ### The reference (R65, R79 to R82) -/

section Reference
variable {tag : Tag} {raw aRef : Nat} {flags : FlagSet} {s : State}

theorem isReference_iff (c : Settings) : isReference c raw flags = true ↔
    c.minArea ≤ raw ∧ 1 ≤ raw ∧ hasFlag flags .refCandidate = true := by
  simp [isReference, and_assoc]

theorem offerHide_refused (hcal : s.cal = .waiting aRef) (h : isReference s.settings raw flags ≠ true) :
    offerHide tag raw flags s = (flags, s) := by
  simp only [offerHide, hcal]
  exact if_neg h

theorem offerHide_chosen (hcal : s.cal = .waiting aRef) (h : isReference s.settings raw flags = true) :
    offerHide tag raw flags s = (flags ||| 0x4000#16, judgeReference tag aRef raw (flags ||| 0x4000#16) s) := by
  simp only [offerHide, hcal]
  exact if_pos h

theorem judgeReference_flagged (h : flags &&& 0x003F#16 ≠ 0#16) : judgeReference tag aRef raw flags s =
    { reportCalibration .flagged tag aRef raw flags 0 s with cal := .ending } := if_pos (decide_eq_true h)

theorem judgeReference_ok (h : ¬(flags &&& 0x003F#16 ≠ 0#16)) (hlow : 95000 ≤ calQuotient aRef raw)
    (hhigh : calQuotient aRef raw ≤ 105000) : judgeReference tag aRef raw flags s =
      { reportCalibration .ok tag aRef raw flags (calQuotient aRef raw) s with
        cal := .ending, settings := { s.settings with gain := calQuotient aRef raw } } :=
  (if_neg (mt of_decide_eq_true h)).trans (if_pos ⟨hlow, hhigh⟩)

theorem judgeReference_range (h : ¬(flags &&& 0x003F#16 ≠ 0#16))
    (hout : calQuotient aRef raw < 95000 ∨ 105000 < calQuotient aRef raw) : judgeReference tag aRef raw flags s =
      { reportCalibration .range tag aRef raw flags (calQuotient aRef raw) s with cal := .ending } :=
  (if_neg (mt of_decide_eq_true h)).trans (if_neg (by omega))

end Reference

/-- Settles O20: which hide is the reference, and its judgement. -/
theorem referenceSetsTheGain : Obligations.ReferenceSetsTheGain := by
  intro tag raw aRef flags s chosen marked unfit g told
  have hchosen : chosen → isReference s.settings raw flags = true := (isReference_iff s.settings).2
  refine ⟨offerHide_none tag raw flags, fun hcal hno => offerHide_refused hcal (mt (isReference_iff s.settings).1 hno),
    fun hcal hyes hunfit => ?_, fun hcal hyes hfit hlow hhigh => ?_, fun hcal hyes hfit hout => ?_⟩
  · rw [offerHide_chosen hcal (hchosen hyes), judgeReference_flagged hunfit]
    rfl
  · rw [offerHide_chosen hcal (hchosen hyes), judgeReference_ok hfit hlow hhigh]
    have hfits : min (calQuotient aRef raw) 4294967295 = g := Nat.min_eq_left (Nat.le_trans hhigh (by decide))
    simp only [reportCalibration, submit, hfits]
    rfl
  · rw [offerHide_chosen hcal (hchosen hyes), judgeReference_range hfit hout]
    rfl

end Sys2Proof.Machine

/-! The spot search of a hide (R90, R93 to R98). -/

namespace Sys2Proof.Machine

/-! ### The machine (R94 to R98) -/

/-- The search is under way: in SEEK, or in LEAD with the lead-in behind it (R94, R95). -/
def Spot.seeks (p : Spot) (leadIn k : Nat) : Prop := p.state = .seek ∨ (p.state = .lead ∧ leadIn ≤ k)

section Search
variable {leadIn need k : Nat} {line first : Count} {covered : Bool} {p : Spot}

theorem spotLine_lead (h : p.state = .lead) (hk : k < leadIn) : spotLine leadIn need k line first covered p = p := by
  simp only [spotLine, h, if_pos hk]

theorem spotLine_settled (h : p.state = .none ∨ p.state = .found) :
    spotLine leadIn need k line first covered p = p := by
  obtain h | h := h <;> simp only [spotLine, h]

theorem spotLine_seeks (h : p.seeks leadIn k) :
    spotLine leadIn need k line first covered p = seekLine need line first covered := by
  obtain h | ⟨h, hk⟩ := h
  · simp only [spotLine, h]
  · simp only [spotLine, h, if_neg (Nat.not_lt.2 hk)]

theorem spotLine_streak_covered (h : p.state = .streak) : spotLine leadIn need k line first true p =
    ⟨if p.length + 1 = need then .found else .streak, p.start, p.length + 1⟩ := by
  simp only [spotLine, h, if_true]

theorem spotLine_streak_bare (h : p.state = .streak) :
    spotLine leadIn need k line first false p = ⟨.seek, first, 0⟩ := by
  simp only [spotLine, h, Bool.false_eq_true, if_false]

/-- The spot part after n covered lines from this one on: a streak that stops at the needed length (R95 to R97). -/
def streakOf (need : Nat) (line : Count) (n : Nat) : Spot :=
  ⟨if need ≤ n then .found else .streak, line, min n need⟩

theorem seekLine_covered (hneed : 1 ≤ need) : seekLine need line first true = streakOf need line 1 := by
  have hfull : (need = 1) = (need ≤ 1) := propext ⟨Nat.le_of_eq, fun h => Nat.le_antisymm h hneed⟩
  rw [seekLine, if_pos rfl, streakOf, Nat.min_eq_left hneed]
  simp only [hfull]

theorem spotLine_streakOf (n : Nat) (start : Count) :
    spotLine leadIn need k line first true (streakOf need start n) = streakOf need start (n + 1) := by
  by_cases hfull : need ≤ n
  · have hstays : streakOf need start (n + 1) = streakOf need start n := by
      rw [streakOf, streakOf, if_pos hfull, if_pos (Nat.le_succ_of_le hfull), Nat.min_eq_right hfull,
        Nat.min_eq_right (Nat.le_succ_of_le hfull)]
    rw [hstays]
    exact spotLine_settled (.inr (if_pos hfull))
  · rw [spotLine_streak_covered (if_neg hfull), streakOf, streakOf, Nat.min_eq_left (Nat.le_of_not_le hfull),
      Nat.min_eq_left (by omega : n + 1 ≤ need)]
    by_cases hlast : n + 1 = need
    · simp only [if_pos hlast, if_pos (Nat.le_of_eq hlast.symm)]
    · simp only [if_neg hlast, if_neg (by omega : ¬need ≤ n + 1)]

/-- Covered lines one after another make a streak from the first of them (R95, R96). -/
theorem spotLine_coveredLines (hneed : 1 ≤ need) (h : p.seeks leadIn k) {n : Nat} (hn : 1 ≤ n) :
    (List.range n).foldl (fun q i => spotLine leadIn need (k + i) (line + BitVec.ofNat 32 i) first true q) p
      = streakOf need line n := by
  induction n, hn using Nat.le_induction with
  | base =>
    show spotLine leadIn need (k + 0) (line + 0#32) first true p = _
    rw [Nat.add_zero, BitVec.add_zero, spotLine_seeks h, seekLine_covered hneed]
  | succ n hn ih =>
    rw [List.range_succ, List.foldl_append, ih]
    exact spotLine_streakOf n line

end Search

/-! ### The counts and the footprint (R90, R93) -/

/-- A length in lines, rounded up (R90). -/
theorem ceilDiv_le_iff {b : Nat} (hb : 1 ≤ b) (a n : Nat) : ceilDiv a b ≤ n ↔ a ≤ n * b := by
  rw [ceilDiv, Nat.div_le_iff_le_mul hb]
  omega

theorem coversFootprint_iff (widths : List Nat) (first width : Nat) (r : Run) :
    coversFootprint widths first width r = true ↔
      r.first ≤ first ∧ first + width ≤ r.last + 1
        ∧ (widths.take (r.last + 1)).sum - (widths.take r.first).sum ≤ r.width := by
  have hend : first + width - 1 ≤ r.last ↔ first + width ≤ r.last + 1 := by omega
  rw [coversFootprint, Bool.and_eq_true, decide_eq_true_iff, decide_eq_true_iff, hend, and_assoc]
  rfl

theorem footprintCovered_iff (x : LineInput) (lane : Option (Fin 4)) (mine : List Run) :
    footprintCovered x lane mine = true ↔ ∃ l head, lane = some l ∧ x.settings.laneHead.get l = some head
      ∧ ∃ r ∈ mine, coversFootprint x.widths (x.settings.footFirst.get head) (x.settings.footWidth.get head) r = true := by
  unfold footprintCovered
  split
  · rename_i hnone
    refine ⟨fun h => absurd h nofun, ?_⟩
    rintro ⟨l, head, rfl, hhead, -⟩
    exact absurd (hnone.symm.trans hhead) nofun
  · rename_i head hsome
    obtain ⟨l, rfl, hl⟩ := Option.bind_eq_some_iff.1 hsome
    rw [List.any_eq_true]
    constructor
    · exact fun h => ⟨l, head, rfl, hl, h⟩
    · rintro ⟨l', head', hl', hhead', h⟩
      obtain rfl := Option.some.inj hl'
      obtain rfl := Option.some.inj (hl.symm.trans hhead')
      exact h

/-- Settles O17: the search line by line, and the counts and the footprint that a hide's update takes. -/
theorem spotIsTheFirstFullStreak : Obligations.SpotIsTheFirstFullStreak := by
  refine ⟨fun leadIn need k first p hneed => ⟨fun hlead hk line covered => spotLine_lead hlead hk, fun hseeks => ?_,
    fun hsettled line covered => spotLine_settled hsettled⟩, fun x mine h hpitch => ?_⟩
  · refine ⟨fun line => spotLine_seeks hseeks, fun line n hn => ?_⟩
    intro after
    have hafter : after = streakOf need line n := spotLine_coveredLines hneed hseeks hn
    refine ⟨hafter, ?_⟩
    rw [hafter]
    by_cases hfull : need ≤ n
    · rw [if_pos hfull]
      exact spotLine_settled (.inr (if_pos hfull))
    · rw [if_neg hfull]
      exact spotLine_streak_bare (if_neg hfull)
  · refine ⟨leadInCount x.settings, neededStreak x.settings, footprintCovered x h.lane mine, rfl,
      fun n => (ceilDiv_le_iff hpitch _ n).symm, fun n => (ceilDiv_le_iff hpitch _ n).symm, ?_⟩
    simp only [footprintCovered_iff, coversFootprint_iff]

end Sys2Proof.Machine

/-! What a line makes of a hide (R47 to R54): the steps of one hide, and the hides that stay and close. -/

namespace Sys2Proof.Machine

/-! ### Flags -/

theorem hasFlag_addFlagIf (c : Bool) (fs : FlagSet) (f g : Flag) :
    hasFlag (addFlagIf c fs f) g = (hasFlag fs g || (c && decide (f.bit = g.bit))) := by
  have hbit : f.bit < 16 := by cases f <;> decide
  cases c with
  | false => simp [addFlagIf]
  | true =>
    simp only [addFlagIf, if_true, addFlag, hasFlag, BitVec.getLsbD_or, Flag.only_eq_twoPow, BitVec.getLsbD_twoPow,
      hbit, decide_true, Bool.true_and]

/-- Flags added within a mask are found in the sum under that mask. -/
theorem or_masked {f g m : FlagSet} (h : g &&& m = g) : f ||| g = f ||| ((f ||| g) &&& m) := by
  ext i hi
  have hbit := congrArg (fun b : FlagSet => b[i]) h
  simp only [BitVec.getElem_and, BitVec.getElem_or] at hbit ⊢
  cases f[i] <;> cases hg : g[i] <;> simp_all

/-! ### Extents (R47) -/

/-- The least of a start and some values: at most each of them, and one of them. -/
theorem foldl_min_spec {α : Type} (f : α → Nat) (l : List α) (m : Nat) :
    let t := l.foldl (fun m a => min m (f a)) m
    (t ≤ m ∧ ∀ a ∈ l, t ≤ f a) ∧ (t = m ∨ ∃ a ∈ l, t = f a) := by
  induction l generalizing m with
  | nil => exact ⟨⟨Nat.le_refl m, fun a ha => absurd ha List.not_mem_nil⟩, .inl rfl⟩
  | cons b rest ih =>
    obtain ⟨⟨hle, hall⟩, hone⟩ := ih (min m (f b))
    refine ⟨⟨Nat.le_trans hle (Nat.min_le_left _ _), List.forall_mem_cons.2
      ⟨Nat.le_trans hle (Nat.min_le_right _ _), hall⟩⟩, ?_⟩
    obtain hmin | ⟨a, ha, heq⟩ := hone
    · obtain h | h := Nat.le_total m (f b)
      · exact .inl (hmin.trans (Nat.min_eq_left h))
      · exact .inr ⟨b, List.mem_cons_self, hmin.trans (Nat.min_eq_right h)⟩
    · exact .inr ⟨a, List.mem_cons_of_mem _ ha, heq⟩

/-- The greatest of a start and some values: at least each of them, and one of them. -/
theorem foldl_max_spec {α : Type} (f : α → Nat) (l : List α) (m : Nat) :
    let t := l.foldl (fun m a => max m (f a)) m
    (m ≤ t ∧ ∀ a ∈ l, f a ≤ t) ∧ (t = m ∨ ∃ a ∈ l, t = f a) := by
  induction l generalizing m with
  | nil => exact ⟨⟨Nat.le_refl m, fun a ha => absurd ha List.not_mem_nil⟩, .inl rfl⟩
  | cons b rest ih =>
    obtain ⟨⟨hle, hall⟩, hone⟩ := ih (max m (f b))
    refine ⟨⟨Nat.le_trans (Nat.le_max_left _ _) hle, List.forall_mem_cons.2
      ⟨Nat.le_trans (Nat.le_max_right _ _) hle, hall⟩⟩, ?_⟩
    obtain hmax | ⟨a, ha, heq⟩ := hone
    · obtain h | h := Nat.le_total (f b) m
      · exact .inl (hmax.trans (Nat.max_eq_left h))
      · exact .inr ⟨b, List.mem_cons_self, hmax.trans (Nat.max_eq_right h)⟩
    · exact .inr ⟨a, List.mem_cons_of_mem _ ha, heq⟩

/-! ### Holes and last runs (R48, R50) -/

/-- The fill of the hole between two consecutive runs of a hide (R48). -/
def holeBetween (fill : Nat) (widths : List Nat) (line : List Run) (p : Run × Run) : Nat :=
  if p.2.first - p.1.last - 1 ≤ fill ∧ ∀ q ∈ line, ¬(p.1.last < q.first ∧ q.last < p.2.first) then
    (widths.take p.2.first).sum - (widths.take (p.1.last + 1)).sum
  else 0

theorem runBetween_eq_false {line : List Run} {a b : Run} :
    runBetween line a b = false ↔ ∀ q ∈ line, ¬(a.last < q.first ∧ q.last < b.first) := by
  simp only [runBetween, List.any_eq_false, decide_eq_true_eq]

theorem holeFill_eq_sum (fill : Nat) (widths : List Nat) (line : List Run) (r : Run) (rest : List Run) :
    holeFill fill widths line (r :: rest) = (((r :: rest).zip rest).map (holeBetween fill widths line)).sum := by
  induction rest generalizing r with
  | nil => rfl
  | cons b rest ih =>
    rw [holeFill, ih, List.zip_cons_cons, List.map_cons, List.sum_cons, holeBetween]
    simp only [runBetween_eq_false]
    rfl

theorem keptRuns_short {mine : List Run} (h : mine.length ≤ 8) : keptRuns mine = mine.map (fun a => ⟨a.first, a.last⟩) :=
  if_pos h

theorem keptRuns_long {mine : List Run} (h : 8 < mine.length) (r : Run) : keptRuns mine =
    (mine.take 7).map (fun a => ⟨a.first, a.last⟩) ++ [⟨(mine.getD 7 r).first, (mine.getLastD r).last⟩] := by
  have hfirst : ((mine.drop 7).map (fun r => r.first)).headD 0 = (mine.getD 7 r).first := by
    rw [List.drop_eq_getElem_cons (by omega), List.getD_eq_getElem _ _ (by omega)]
    rfl
  have hlast : (mine.map (fun r => r.last)).getLastD 0 = (mine.getLastD r).last := by
    rw [List.getLastD_eq_getLast?, List.getLast?_map, List.getLastD_eq_getLast?]
    cases hkept : mine.getLast? with
    | none =>
      rw [List.getLast?_eq_none_iff.1 hkept] at h
      exact absurd h nofun
    | some t => rfl
  refine (if_neg (Nat.not_le.2 h)).trans ?_
  rw [hfirst, hlast]
  rfl

/-! ### One hide (R47, R51, R52) -/

theorem stepHide_none (x : LineInput) (h : Hide) :
    stepHide x [] h = ({ h with gap := h.gap - 1 }, if h.gap ≤ 1 then .gap else .stays) := by
  have hzero : (h.gap - 1 = 0) = (h.gap ≤ 1) := propext (by omega)
  simp only [stepHide, hzero]

/-- Does a run of the line meet the first or the last cell (R49)? -/
def meetsEdge (mine : List Run) : Bool :=
  mine.any (fun r => decide (r.first ≤ 0 ∧ 0 ≤ r.last) || decide (r.first ≤ 1023 ∧ 1023 ≤ r.last))

theorem meetsEdge_iff (mine : List Run) :
    meetsEdge mine = true ↔ ∃ a ∈ mine, a.first = 0 ∨ (a.first ≤ 1023 ∧ 1023 ≤ a.last) := by
  simp [meetsEdge]

/-- The flags of a hide with runs on the line: EDGE and LONG added as they apply (R49, R52). -/
def steppedFlags (x : LineInput) (mine : List Run) (h : Hide) : FlagSet :=
  addFlagIf (decide (h.covered + 1 = x.settings.maxLines)) (addFlagIf (meetsEdge mine) h.flags .edge) .long

/-- A line adds no flag to a hide but EDGE and LONG. -/
theorem steppedFlags_masked (x : LineInput) (mine : List Run) (h : Hide) :
    steppedFlags x mine h = h.flags ||| (steppedFlags x mine h &&& 0x000A#16) := by
  have hadded : steppedFlags x mine h = h.flags ||| ((if meetsEdge mine then 0x0002#16 else 0#16)
      ||| if h.covered + 1 = x.settings.maxLines then 0x0008#16 else 0#16) := by
    rw [← BitVec.or_assoc, steppedFlags]
    by_cases hlong : h.covered + 1 = x.settings.maxLines
    · cases meetsEdge mine <;> simp [hlong, addFlagIf, addFlag, Flag.only, Flag.bit]
    · cases meetsEdge mine <;> simp [hlong, addFlagIf, addFlag, Flag.only, Flag.bit]
  rw [hadded]
  refine or_masked ?_
  split <;> split <;> rfl

/-- A hide with runs on the line: the accumulation, with EDGE and LONG added as they apply (R47 to R52). -/
theorem stepHide_runs (x : LineInput) (h : Hide) {mine : List Run} (hmine : mine ≠ []) : stepHide x mine h =
    ({ accumulate x mine h with flags := steppedFlags x mine h },
      if h.covered + 1 = x.settings.maxLines then .long else .stays) := by
  obtain ⟨r, rest, rfl⟩ := List.exists_cons_of_ne_nil hmine
  have hcovered : (accumulate x (r :: rest) h).covered = h.covered + 1 := rfl
  by_cases hlong : h.covered + 1 = x.settings.maxLines
  · simp only [stepHide, hcovered, steppedFlags, hlong, decide_true, addFlagIf, if_true]
    rfl
  · simp only [stepHide, hcovered, steppedFlags, hlong, decide_false, addFlagIf]
    rfl

/-! ### The hides of the table (R38, R54) -/

theorem closeSpot_eq (h : Hide) :
    closeSpot h = { h with flags := h.flags ||| if h.spot.state = .found then 0#16 else 0x0200#16 } := by
  unfold closeSpot
  by_cases hfound : h.spot.state = .found
  · simp [hfound, addFlagIf]
  · simp only [hfound, addFlagIf, decide_false, Bool.not_false, if_true, if_false]
    rfl

/-- A hide after its line that stays: stepped and visited (R38, R93). -/
theorem lineOfHide_stays {x : LineInput} {assigned : List (Run × Tag)} {h : Hide}
    (hm : (lineOfHide x assigned h).2 = .stays) : (lineOfHide x assigned h).1
      = spotUpdate x (runsOf assigned h.tag) (stepHide x (runsOf assigned h.tag) h).1 := if_pos hm

/-- A hide that the line marks for close: its spot part is closed after its visit (R100). -/
theorem lineOfHide_marked {x : LineInput} {assigned : List (Run × Tag)} {h : Hide}
    (hm : (lineOfHide x assigned h).2 ≠ .stays) : (lineOfHide x assigned h).1
      = closeSpot (spotUpdate x (runsOf assigned h.tag) (stepHide x (runsOf assigned h.tag) h).1) := if_neg hm

/-- The hides of a list with a mark, and what a line makes of them. -/
theorem filter_map_congr {α β γ : Type} {f : α → β × γ} {g : α → β} {p : γ → Bool} {l : List α}
    (h : ∀ a ∈ l, p (f a).2 = true → (f a).1 = g a) :
    ((l.map f).filter (fun b => p b.2)).map (fun b => b.1) = (l.filter (fun a => p (f a).2)).map g := by
  rw [List.filter_map, List.map_map]
  exact List.map_congr_left fun a ha => by
    obtain ⟨hal, hp⟩ := List.mem_filter.1 ha
    exact h a hal hp

/-- Settles O15: a hide with no run and with runs, and the table through the line. -/
theorem lineStepsAHide : Obligations.LineStepsAHide := by
  constructor
  · intro x h r rest
    refine ⟨by rw [stepHide_none], by rw [stepHide_none], ?_⟩
    intro mine filled t
    have hstep := stepHide_runs x h (List.cons_ne_nil r rest)
    have ht : t = { accumulate x mine h with flags := steppedFlags x mine h } := congrArg Prod.fst hstep
    have hfilled : holeFill x.settings.fill x.widths x.runs mine = filled := holeFill_eq_sum _ _ _ r rest
    have hleft := foldl_min_spec (fun a : Run => a.first) mine h.left
    have hright := foldl_max_spec (fun a : Run => a.last) mine h.right
    rw [ht]
    refine ⟨congrArg (_ + ·) hfilled, congrArg (_ + ·) hfilled, rfl, rfl, rfl, hleft.1, hleft.2, hright.1, hright.2,
      fun hshort => keptRuns_short hshort, fun hlong => keptRuns_long hlong r, congrArg Prod.snd hstep, ?_, ?_, ?_, rfl,
      rfl, rfl, rfl, rfl, rfl⟩
    · simp [steppedFlags, hasFlag_addFlagIf, Flag.bit]
    · rw [← meetsEdge_iff]
      simp [steppedFlags, hasFlag_addFlagIf, Flag.bit]
    · exact steppedFlags_masked x mine h
  · intro x t groups opened mine mark stepped closed o
    refine ⟨?_, ?_, sortBy_sorted _ _, rfl, rfl, ?_⟩
    · exact filter_map_congr (f := lineOfHide x opened.assigned) (g := stepped) (p := fun m => decide (m = .stays))
        fun h _ hp => lineOfHide_stays (of_decide_eq_true hp)
    · refine (sortBy_perm _ _).trans (List.Perm.of_eq ?_)
      refine (filter_map_congr (f := lineOfHide x opened.assigned) (g := closed) (p := fun m => !decide (m = .stays))
        fun h _ hp => ?_).trans ?_
      · exact (lineOfHide_marked (by simpa using hp)).trans (closeSpot_eq _)
      · simp only [ne_eq, decide_not]
        rfl
    · refine congrArg (fun l => shadowList (_ ++ l)) ?_
      have hlong := filter_map_congr (f := lineOfHide x opened.assigned) (g := closed) (l := opened.table)
        (p := fun m => decide (m = .long)) fun h _ hp => ?_
      · have hruns := congrArg (List.flatMap (fun h : Hide => h.lastRuns)) hlong
        rw [List.flatMap_map, List.flatMap_map] at hruns
        exact hruns
      · have hmark : (lineOfHide x opened.assigned h).2 = .long := of_decide_eq_true hp
        exact (lineOfHide_marked (by rw [hmark]; nofun)).trans (closeSpot_eq _)

end Sys2Proof.Machine

/-! Openings and the new shadow list (R36, R37, R42 to R46, R53, R92). -/

namespace Sys2Proof.Machine

/-! ### The hide that opens (R44, R45, R92) -/

theorem Window.takes_iff (w : Window) (cell : Nat) :
    w.takes cell = true ↔ w.enabled = true ∧ w.first ≤ cell ∧ cell ≤ w.last := by
  simp [Window.takes]

theorem laneFor_some {c : Settings} {first last : Nat} {l : Fin 4} (h : laneFor c first last = some l) :
    (c.window.get l).enabled = true ∧ (c.window.get l).first ≤ (first + last) / 2
      ∧ (first + last) / 2 ≤ (c.window.get l).last :=
  (Window.takes_iff _ _).1 (List.find?_some (p := fun i => (c.window.get i).takes ((first + last) / 2)) h)

theorem laneFor_none {c : Settings} {first last : Nat} (h : laneFor c first last = none) (l : Fin 4)
    (henabled : (c.window.get l).enabled = true) :
    (first + last) / 2 < (c.window.get l).first ∨ (c.window.get l).last < (first + last) / 2 := by
  have hnot := List.find?_eq_none.1 h l (mem_fours l)
  rw [Window.takes_iff] at hnot
  have hout : ¬((c.window.get l).first ≤ (first + last) / 2 ∧ (first + last) / 2 ≤ (c.window.get l).last) := fun h =>
    hnot ⟨henabled, h⟩
  omega

theorem spotAtOpen_eq (c : Settings) (lane : Option (Fin 4)) (line : Count) : spotAtOpen c lane line =
    ⟨if ∃ l, lane = some l ∧ (c.laneHead.get l).isSome = true ∧ c.stamping.get l = true then .lead else .none, line, 0⟩ := by
  cases lane with
  | none => simp [spotAtOpen]
  | some l => simp [spotAtOpen]

theorem openedHide_flags (x : LineInput) (shadow : List Span) (tag : Tag) (r : Run) :
    (openedHide x shadow tag r).flags
      = (if ∃ t ∈ shadow, r.first ≤ t.last ∧ t.first ≤ r.last then 0x0004#16 else 0#16)
        ||| (if x.mode = .calibrate then 0x0040#16 else 0#16) := by
  have hmeets : (shadow.any (fun t => shareCell r.first r.last t.first t.last)) = true ↔
      ∃ t ∈ shadow, r.first ≤ t.last ∧ t.first ≤ r.last := by
    simp [List.any_eq_true, shareCell]
  simp only [openedHide, addFlagIf, hmeets, decide_eq_true_eq]
  split <;> split <;> rfl

/-- An unmatched run opens a hide with the first free tag while the table has room (R36, R43). -/
theorem placeRun_opens {x : LineInput} (shadow : List Span) {o : Openings} (hroom : o.table.length < 16) (r : Run) :
    placeRun x shadow o (r, none) =
      let held := o.table.map (fun h => h.tag) ++ x.held
      let tag := freeTag held held.length o.nextTag
      { o with
        table := o.table ++ [openedHide x shadow tag r]
        nextTag := stepTag tag
        assigned := o.assigned ++ [(r, tag)] } := if_pos hroom

/-! ### The new shadow list (R53) -/

/-- A stretch made of offered ones: it starts and ends with one, and they reach over every step of it. -/
structure ChainOf (offered : List Span) (t : Span) : Prop where
  whole : t.first ≤ t.last
  start : ∃ u ∈ offered, u.first = t.first
  stop : ∃ u ∈ offered, u.last = t.last
  link : ∀ k, t.first ≤ k → k < t.last → ∃ u ∈ offered, u.first ≤ k ∧ k + 1 ≤ u.last

theorem ChainOf.single {offered : List Span} {u : Span} (hu : u ∈ offered) (hwhole : u.first ≤ u.last) :
    ChainOf offered u :=
  ⟨hwhole, ⟨u, hu, rfl⟩, ⟨u, hu, rfl⟩, fun _ hk hlt => ⟨u, hu, hk, hlt⟩⟩

/-- A chain and an offered stretch that starts in it make one chain. -/
theorem ChainOf.join {offered : List Span} {t u : Span} (ht : ChainOf offered t) (hu : u ∈ offered)
    (hmeets : u.first ≤ t.last) : ChainOf offered ⟨t.first, max t.last u.last⟩ := by
  refine ⟨Nat.le_trans ht.whole (Nat.le_max_left _ _), ht.start, ?_, fun k hk hlt => ?_⟩
  · obtain h | h := Nat.le_total u.last t.last
    · rw [Nat.max_eq_left h]
      exact ht.stop
    · rw [Nat.max_eq_right h]
      exact ⟨u, hu, rfl⟩
  · by_cases hin : k < t.last
    · exact ht.link k hk hin
    · exact ⟨u, hu, by omega, by simp only at hlt; omega⟩

/-- A stretch lies within one of the list. -/
def Span.within (u : Span) (l : List Span) : Prop := ∃ t ∈ l, t.first ≤ u.first ∧ u.last ≤ t.last

/-- What joining makes of a chain and the stretches that start at it or above (R53). -/
theorem joinSpans_spec {offered : List Span} {cur : Span} {l : List Span} (hcur : ChainOf offered cur)
    (hl : ∀ u ∈ l, u ∈ offered ∧ u.first ≤ u.last) (hsorted : (cur :: l).Pairwise (fun a b => a.first ≤ b.first)) :
    (joinSpans cur l).Pairwise (fun a b => a.last < b.first)
    ∧ (∀ t ∈ joinSpans cur l, ChainOf offered t ∧ cur.first ≤ t.first)
    ∧ ∀ u ∈ cur :: l, u.within (joinSpans cur l) := by
  induction l generalizing cur with
  | nil =>
    refine ⟨List.pairwise_singleton _ _, fun t ht => ?_, fun u hu => ?_⟩
    · obtain rfl := List.mem_singleton.1 ht
      exact ⟨hcur, Nat.le_refl _⟩
    · obtain rfl := List.mem_singleton.1 hu
      exact ⟨u, List.mem_cons_self, Nat.le_refl _, Nat.le_refl _⟩
  | cons r rest ih =>
    obtain ⟨hfirst, hrest⟩ := List.pairwise_cons.1 hsorted
    obtain ⟨⟨hr, hwhole⟩, hlater⟩ := List.forall_mem_cons.1 hl
    have hcurr := hfirst r List.mem_cons_self
    rw [joinSpans]
    by_cases hmeets : r.first ≤ cur.last
    · rw [if_pos hmeets]
      obtain ⟨hapart, hchains, hin⟩ := ih (hcur.join hr hmeets) hlater (List.pairwise_cons.2
        ⟨fun u hu => hfirst u (List.mem_cons_of_mem _ hu), (List.pairwise_cons.1 hrest).2⟩)
      obtain ⟨t, ht, htfirst, htlast⟩ := hin _ List.mem_cons_self
      simp only at htfirst htlast
      refine ⟨hapart, hchains, List.forall_mem_cons.2 ⟨⟨t, ht, htfirst, by omega⟩,
        List.forall_mem_cons.2 ⟨⟨t, ht, by omega, by omega⟩, fun u hu => hin u (List.mem_cons_of_mem _ hu)⟩⟩⟩
    · rw [if_neg hmeets]
      obtain ⟨hapart, hchains, hin⟩ := ih (.single hr hwhole) hlater hrest
      refine ⟨List.pairwise_cons.2 ⟨fun t ht => ?_, hapart⟩, List.forall_mem_cons.2 ⟨⟨hcur, Nat.le_refl _⟩,
        fun t ht => ?_⟩, List.forall_mem_cons.2 ⟨⟨cur, List.mem_cons_self, Nat.le_refl _, Nat.le_refl _⟩,
          fun u hu => ?_⟩⟩
      · have := (hchains t ht).2
        omega
      · obtain ⟨hchain, hle⟩ := hchains t ht
        exact ⟨hchain, Nat.le_trans hcurr hle⟩
      · obtain ⟨t, ht, hwithin⟩ := hin u hu
        exact ⟨t, List.mem_cons_of_mem _ ht, hwithin⟩

/-- The shadow list is the first 16 of the joined stretches (R53). -/
theorem shadowList_take {offered : List Span} (hwhole : ∀ u ∈ offered, u.first ≤ u.last) :
    ∃ joined : List Span, shadowList offered = joined.take 16
      ∧ joined.Pairwise (fun a b => a.last < b.first) ∧ (∀ t ∈ joined, ChainOf offered t)
      ∧ ∀ u ∈ offered, u.within joined := by
  have hmem (u : Span) : u ∈ sortBy (fun t : Span => t.first) offered ↔ u ∈ offered := mem_sortBy _ _ _
  have hsorted := sortBy_sorted (fun t : Span => t.first) offered
  unfold shadowList
  cases hsort : sortBy (fun t : Span => t.first) offered with
  | nil =>
    refine ⟨[], rfl, .nil, fun t ht => absurd ht List.not_mem_nil, fun u hu => ?_⟩
    rw [← hmem, hsort] at hu
    exact absurd hu List.not_mem_nil
  | cons t rest =>
    rw [hsort] at hsorted
    simp only [hsort] at hmem
    have ht : t ∈ offered := (hmem t).1 List.mem_cons_self
    obtain ⟨hapart, hchains, hin⟩ := joinSpans_spec (.single ht (hwhole t ht))
      (fun u hu => ⟨(hmem u).1 (List.mem_cons_of_mem _ hu), hwhole u ((hmem u).1 (List.mem_cons_of_mem _ hu))⟩) hsorted
    exact ⟨joinSpans t rest, rfl, hapart, fun u hu => (hchains u hu).1, fun u hu => hin u ((hmem u).2 hu)⟩

/-- Of stretches apart, two that share a cell are one. -/
theorem eq_of_share {l : List Span} (hapart : l.Pairwise (fun a b => a.last < b.first)) {t t' : Span} (ht : t ∈ l)
    (ht' : t' ∈ l) {k : Nat} (hk : t.first ≤ k ∧ k ≤ t.last) (hk' : t'.first ≤ k ∧ k ≤ t'.last) : t = t' := by
  induction l with
  | nil => exact absurd ht List.not_mem_nil
  | cons x rest ih =>
    obtain ⟨hx, hrest⟩ := List.pairwise_cons.1 hapart
    obtain rfl | hin := List.mem_cons.1 ht
    · obtain rfl | hin' := List.mem_cons.1 ht'
      · rfl
      · have := hx t' hin'
        omega
    · obtain rfl | hin' := List.mem_cons.1 ht'
      · have := hx t hin
        omega
      · exact ih hrest hin hin'

/-- Settles O14: an unmatched run, and the new shadow list. -/
theorem unmatchedRunOpensAHide : Obligations.UnmatchedRunOpensAHide := by
  constructor
  · intro x shadow o r after holds
    refine ⟨fun t => rfl, fun hfull => if_neg (Nat.not_lt.2 hfull), fun hroom hnext hheld => ?_⟩
    have hlen : (o.table.map (fun h => h.tag) ++ x.held).length < 65535 := by
      simp only [List.length_append, List.length_map]
      omega
    have hholds (t : Tag) : t ∈ o.table.map (fun h => h.tag) ++ x.held ↔ holds t := by
      rw [List.mem_append, List.mem_map]
      exact or_comm
    obtain ⟨k, hk, hearlier, hnew⟩ := freeTag_spec hnext hlen
    refine ⟨openedHide x shadow _ r, placeRun_opens shadow hroom r, ⟨k, hk, fun j hj => (hholds _).1 (hearlier j hj)⟩,
      fun h => hnew ((hholds _).2 h), ?_, rfl, rfl, rfl, rfl, rfl, rfl, rfl, rfl, rfl, rfl,
      fun l hl => laneFor_some hl, fun hlane l henabled => laneFor_none hlane l henabled, openedHide_flags _ _ _ _,
      spotAtOpen_eq _ _ _⟩
    show freeTag _ _ _ ≠ 0#16
    rw [hk]
    exact stepTag_iterate_ne_zero hnext k
  · intro offered hwhole shadow
    obtain ⟨joined, htake, hapart, hchains, hin⟩ := shadowList_take hwhole
    have hshadow : shadow = joined.take 16 := htake
    have hsub : ∀ t ∈ shadow, t ∈ joined := fun t ht => List.mem_of_mem_take (hshadow ▸ ht)
    refine ⟨shadowList_length offered, ?_, fun t ht => ?_, fun u hu => ?_⟩
    · rw [hshadow]
      exact hapart.sublist (List.take_sublist _ _)
    · have hchain := hchains t (hsub t ht)
      refine ⟨hchain.whole, hchain.start, hchain.stop, hchain.link, fun u hu hstart hstop => ?_⟩
      obtain ⟨t', ht', hfirst, hlast⟩ := hin u hu
      have hu' := hwhole u hu
      have ht'whole := (hchains t' ht').whole
      have htwhole := hchain.whole
      obtain rfl : t = t' := eq_of_share hapart (hsub t ht) ht' (k := max t.first u.first) (by omega) (by omega)
      exact ⟨hfirst, hlast⟩
    · obtain ⟨t, ht, hfirst, hlast⟩ := hin u hu
      rw [hshadow]
      rw [← List.take_append_drop 16 joined] at ht hapart
      obtain ht | ht := List.mem_append.1 ht
      · exact .inl ⟨t, ht, hfirst, hlast⟩
      · have hlong : 16 < joined.length := by
          have := List.length_pos_of_mem ht
          rw [List.length_drop] at this
          omega
        refine .inr ⟨by rw [List.length_take]; omega, fun v hv => ?_⟩
        exact Nat.lt_of_lt_of_le ((List.pairwise_append.1 hapart).2.2 v hv t ht) hfirst

end Sys2Proof.Machine

/-! Merge groups (R39, R40). The touch sets of the runs are added one after another; the groups that result are apart,
and each holds the tags linked directly or through others. -/

namespace Sys2Proof.Machine

/-! ### Groups of tags -/

/-- Two tags of one touch set. -/
def shareTouch (sets : List (List Tag)) (t t' : Tag) : Prop := ∃ ts ∈ sets, t ∈ ts ∧ t' ∈ ts

theorem shareTouch_symm {sets : List (List Tag)} {t t' : Tag} (h : shareTouch sets t t') : shareTouch sets t' t := by
  obtain ⟨ts, hts, ht, ht'⟩ := h
  exact ⟨ts, hts, ht', ht⟩

/-- Tags linked directly or through others by the touch sets (R40). -/
def tagsLinked (sets : List (List Tag)) : Tag → Tag → Prop := Relation.ReflTransGen (shareTouch sets)

theorem tagsLinked_symm {sets : List (List Tag)} {t t' : Tag} (h : tagsLinked sets t t') : tagsLinked sets t' t := by
  induction h with
  | refl => exact .refl
  | tail _ hstep ih => exact .head (shareTouch_symm hstep) ih

theorem tagsLinked_mono {sets more : List (List Tag)} (hsub : sets ⊆ more) {t t' : Tag} (h : tagsLinked sets t t') :
    tagsLinked more t t' := by
  induction h with
  | refl => exact .refl
  | tail _ hstep ih =>
    obtain ⟨ts, hts, hshare⟩ := hstep
    exact ih.tail ⟨ts, hsub hts, hshare⟩

/-- The groups that these touch sets make: apart, over the tags of the sets, each closed under links and linked. -/
structure Grouped (sets groups : List (List Tag)) : Prop where
  apart : groups.Pairwise (fun a b => ∀ t ∈ a, t ∉ b)
  covers : ∀ t, (∃ g ∈ groups, t ∈ g) ↔ ∃ ts ∈ sets, t ∈ ts
  linked : ∀ g ∈ groups, ∀ t ∈ g, ∀ t' ∈ g, tagsLinked sets t t'
  closed : ∀ g ∈ groups, ∀ t ∈ g, ∀ t', shareTouch sets t t' → t' ∈ g

/-- Groups that share a tag are one. -/
theorem eq_of_mem_apart {groups : List (List Tag)} (hapart : groups.Pairwise (fun a b => ∀ t ∈ a, t ∉ b))
    {g g' : List Tag} (hg : g ∈ groups) (hg' : g' ∈ groups) {t : Tag} (ht : t ∈ g) (ht' : t ∈ g') : g = g' := by
  induction groups with
  | nil => exact absurd hg List.not_mem_nil
  | cons x rest ih =>
    obtain ⟨hx, hrest⟩ := List.pairwise_cons.1 hapart
    obtain rfl | hin := List.mem_cons.1 hg
    · obtain rfl | hin' := List.mem_cons.1 hg'
      · rfl
      · exact absurd ht' (hx g' hin' t ht)
    · obtain rfl | hin' := List.mem_cons.1 hg'
      · exact absurd ht (hx g hin t ht')
      · exact ih hrest hin hin'

theorem shareTag_iff (a b : List Tag) : shareTag a b = true ↔ ∃ t ∈ a, t ∈ b := by
  simp [shareTag, List.any_eq_true]

/-- The group that a touch set makes of itself and the groups it meets (R40). -/
def joinedGroup (groups : List (List Tag)) (ts : List Tag) : List Tag :=
  (groups.filter (fun g => shareTag g ts)).flatten
    ++ ts.filter (fun t => !decide (t ∈ (groups.filter (fun g => shareTag g ts)).flatten))

theorem mem_joinedGroup {groups : List (List Tag)} {ts : List Tag} {t : Tag} :
    t ∈ joinedGroup groups ts ↔ (∃ g ∈ groups, (∃ v ∈ g, v ∈ ts) ∧ t ∈ g) ∨ t ∈ ts := by
  have hmet : t ∈ (groups.filter (fun g => shareTag g ts)).flatten ↔ ∃ g ∈ groups, (∃ v ∈ g, v ∈ ts) ∧ t ∈ g := by
    simp only [List.mem_flatten, List.mem_filter, shareTag_iff, and_assoc]
  rw [joinedGroup, List.mem_append, List.mem_filter, Bool.not_eq_true', decide_eq_false_iff_not, hmet]
  exact ⟨fun h => h.imp_right (·.1), fun h => or_iff_not_imp_left.2 fun hnot => ⟨h.resolve_left hnot, hnot⟩⟩

theorem addTouch_of_ne_nil {groups : List (List Tag)} {ts : List Tag} (h : ts ≠ []) :
    addTouch groups ts = joinedGroup groups ts :: groups.filter (fun g => !shareTag g ts) := by
  obtain ⟨t, rest, rfl⟩ := List.exists_cons_of_ne_nil h
  rfl

theorem mem_parted {groups : List (List Tag)} {ts g : List Tag} :
    g ∈ groups.filter (fun g => !shareTag g ts) ↔ g ∈ groups ∧ ∀ v ∈ g, v ∉ ts := by
  rw [List.mem_filter, Bool.not_eq_true', ← Bool.not_eq_true, shareTag_iff]
  simp only [not_exists, not_and]

/-- One more touch set joins the groups it meets and leaves the others (R40). -/
theorem Grouped.add {sets groups : List (List Tag)} (h : Grouped sets groups) (ts : List Tag) :
    Grouped (sets ++ [ts]) (addTouch groups ts) := by
  have hsub : sets ⊆ sets ++ [ts] := List.subset_append_left _ _
  have hshare {t t' : Tag} : shareTouch (sets ++ [ts]) t t' ↔ shareTouch sets t t' ∨ (t ∈ ts ∧ t' ∈ ts) := by
    simp [shareTouch, or_and_right, exists_or]
  by_cases hnil : ts = []
  · subst hnil
    have hsame {t t' : Tag} : shareTouch (sets ++ [[]]) t t' ↔ shareTouch sets t t' := by simp [shareTouch]
    refine ⟨h.apart, fun t => ?_, fun g hg t ht t' ht' => tagsLinked_mono hsub (h.linked g hg t ht t' ht'),
      fun g hg t ht t' hlink => h.closed g hg t ht t' (hsame.1 hlink)⟩
    exact (h.covers t).trans (by simp)
  rw [addTouch_of_ne_nil hnil]
  have hparted {g : List Tag} (hg : g ∈ groups.filter (fun g => !shareTag g ts)) :
      g ∈ groups ∧ ∀ v ∈ g, v ∉ ts := mem_parted.1 hg
  refine ⟨List.pairwise_cons.2 ⟨fun g hg t ht htg => ?_, h.apart.filter _⟩, fun t => ?_, ?_, ?_⟩
  · obtain ⟨hgroup, hout⟩ := hparted hg
    obtain ⟨g', hg', ⟨v, hv, hvts⟩, htg'⟩ | hts := mem_joinedGroup.1 ht
    · obtain rfl := eq_of_mem_apart h.apart hg' hgroup htg' htg
      exact hout v hv hvts
    · exact hout t htg hts
  · simp only [List.exists_mem_cons_iff, mem_joinedGroup, List.mem_append, List.mem_singleton, or_and_right, exists_or,
      exists_eq_left, ← h.covers, mem_parted]
    constructor
    · rintro ((⟨g, hg, -, ht⟩ | ht) | ⟨g, ⟨hg, -⟩, ht⟩)
      · exact .inl ⟨g, hg, ht⟩
      · exact .inr ht
      · exact .inl ⟨g, hg, ht⟩
    · rintro (⟨g, hg, ht⟩ | ht)
      · by_cases hmeets : ∃ v ∈ g, v ∈ ts
        · exact .inl (.inl ⟨g, hg, hmeets, ht⟩)
        · exact .inr ⟨g, ⟨hg, fun v hv hvts => hmeets ⟨v, hv, hvts⟩⟩, ht⟩
      · exact .inl (.inr ht)
  · obtain ⟨w, hw⟩ := List.exists_mem_of_ne_nil ts hnil
    have toWitness {t : Tag} (ht : t ∈ joinedGroup groups ts) : tagsLinked (sets ++ [ts]) t w := by
      obtain ⟨g, hg, ⟨v, hv, hvts⟩, htg⟩ | hts := mem_joinedGroup.1 ht
      · exact (tagsLinked_mono hsub (h.linked g hg t htg v hv)).tail (hshare.2 (.inr ⟨hvts, hw⟩))
      · exact .single (hshare.2 (.inr ⟨hts, hw⟩))
    refine List.forall_mem_cons.2 ⟨fun t ht t' ht' => (toWitness ht).trans (tagsLinked_symm (toWitness ht')),
      fun g hg t ht t' ht' => ?_⟩
    exact tagsLinked_mono hsub (h.linked g (hparted hg).1 t ht t' ht')
  · refine List.forall_mem_cons.2 ⟨fun t ht t' hlink => ?_, fun g hg t ht t' hlink => ?_⟩
    · obtain hold | hnew := hshare.1 hlink
      · obtain ⟨s, hs, hts, hts'⟩ := hold
        obtain ⟨g, hg, htg⟩ := (h.covers t).2 ⟨s, hs, hts⟩
        have hmeets : ∃ v ∈ g, v ∈ ts := by
          obtain ⟨g', hg', hmeets, htg'⟩ | hin := mem_joinedGroup.1 ht
          · obtain rfl := eq_of_mem_apart h.apart hg' hg htg' htg
            exact hmeets
          · exact ⟨t, htg, hin⟩
        exact mem_joinedGroup.2 (.inl ⟨g, hg, hmeets, h.closed g hg t htg t' ⟨s, hs, hts, hts'⟩⟩)
      · exact mem_joinedGroup.2 (.inr hnew.2)
    · obtain ⟨hgroup, hout⟩ := hparted hg
      obtain hold | hnew := hshare.1 hlink
      · exact h.closed g hgroup t ht t' hold
      · exact absurd hnew.1 (hout t ht)

theorem grouped_foldl {sets groups : List (List Tag)} (h : Grouped sets groups) (more : List (List Tag)) :
    Grouped (sets ++ more) (more.foldl addTouch groups) := by
  induction more generalizing sets groups with
  | nil => rwa [List.append_nil]
  | cons ts rest ih =>
    have hrest := ih (h.add ts)
    rwa [List.append_assoc, List.singleton_append] at hrest

/-- The merge groups of a line are those its touch sets make (R40). -/
theorem mergeGroups_grouped (table : List Hide) (runs : List Run) :
    Grouped (runs.map (fun r => touchSet table r)) (mergeGroups table runs) :=
  grouped_foldl (sets := []) ⟨.nil, by simp, by simp, by simp⟩ _

/-! ### The survivor (R40) -/

/-- Hide a is at least as good a survivor as hide b: older, or as old with no higher tag (R40). -/
def outlasts (line : Count) (a b : Hide) : Prop :=
  b.age line < a.age line ∨ (b.age line = a.age line ∧ a.tag.toNat ≤ b.tag.toNat)

theorem outlasts_trans {line : Count} {a b c : Hide} (hab : outlasts line a b) (hbc : outlasts line b c) :
    outlasts line a c := by
  unfold outlasts at *
  omega

theorem outlasts_of_outlives {line : Count} {a b : Hide} (h : outlives line a b = true) : outlasts line a b := by
  simp only [outlives, Bool.or_eq_true, Bool.and_eq_true, decide_eq_true_eq] at h
  unfold outlasts
  omega

theorem outlasts_of_not_outlives {line : Count} {a b : Hide} (h : outlives line a b ≠ true) : outlasts line b a := by
  simp only [outlives, ne_eq, Bool.or_eq_true, Bool.and_eq_true, decide_eq_true_eq, not_or, not_and] at h
  unfold outlasts
  omega

/-- The survivor of some hides is one of them, and outlasts every one of them (R40). -/
theorem survivorOf_spec (line : Count) {hides : List Hide} (h : hides ≠ []) :
    ∃ e ∈ hides, survivorOf line hides = some e ∧ ∀ b ∈ hides, outlasts line e b := by
  have hself (x : Hide) : outlasts line x x := .inr ⟨rfl, Nat.le_refl _⟩
  induction hides with
  | nil => exact absurd rfl h
  | cons x rest ih =>
    by_cases hrest : rest = []
    · subst hrest
      exact ⟨x, List.mem_cons_self, rfl, List.forall_mem_singleton.2 (hself x)⟩
    · obtain ⟨y, hy, hsurvivor, hall⟩ := ih hrest
      by_cases hlives : outlives line y x = true
      · refine ⟨y, List.mem_cons_of_mem _ hy, ?_, List.forall_mem_cons.2 ⟨outlasts_of_outlives hlives, hall⟩⟩
        simp only [survivorOf, hsurvivor, if_pos hlives]
      · refine ⟨x, List.mem_cons_self, ?_, List.forall_mem_cons.2 ⟨hself x, fun b hb => ?_⟩⟩
        · simp only [survivorOf, hsurvivor, if_neg hlives]
        · exact outlasts_trans (outlasts_of_not_outlives hlives) (hall b hb)

end Sys2Proof.Machine

/-! The merges of a line (R39 to R42, R99). Every tag of the table has an heir: the survivor of its group, or itself where
it is in none. Hides are joined exactly when they have the same heir, and a hide is left by the merges exactly when it is
its own. -/

namespace Sys2Proof.Machine

/-! ### What a run meets (R39) -/

/-- A run shares a cell with a last run of a hide of the table (R39). -/
def meetsIn (table : List Hide) (r : Run) (h : Hide) : Prop :=
  h ∈ table ∧ ∃ u ∈ h.lastRuns, r.first ≤ u.last ∧ u.first ≤ r.last

theorem touches_iff (r : Run) (h : Hide) :
    touches r h = true ↔ ∃ u ∈ h.lastRuns, r.first ≤ u.last ∧ u.first ≤ r.last := by
  simp [touches, shareCell, List.any_eq_true]

theorem mem_touchSet {table : List Hide} {r : Run} {t : Tag} :
    t ∈ touchSet table r ↔ ∃ h, meetsIn table r h ∧ h.tag = t := by
  simp only [touchSet, List.mem_map, List.mem_filter, touches_iff, meetsIn]

/-- Hides linked by the runs of a line, directly or through others (R40). -/
def hidesJoined (table : List Hide) (runs : List Run) : Hide → Hide → Prop :=
  Relation.ReflTransGen (fun a b => ∃ r ∈ runs, meetsIn table r a ∧ meetsIn table r b)

/-- The touch sets of a line. -/
def touchSets (table : List Hide) (runs : List Run) : List (List Tag) := runs.map (fun r => touchSet table r)

theorem shareTouch_touchSets {table : List Hide} {runs : List Run} {t t' : Tag} :
    shareTouch (touchSets table runs) t t' ↔ ∃ r ∈ runs, t ∈ touchSet table r ∧ t' ∈ touchSet table r := by
  simp [shareTouch, touchSets]

/-- In a table that holds no tag twice a hide is found by its tag. -/
theorem hide_of_tag {table : List Hide} (hl : (table.map (fun h => h.tag)).Nodup) {a b : Hide} (ha : a ∈ table)
    (hb : b ∈ table) (h : a.tag = b.tag) : a = b := List.inj_on_of_nodup_map hl ha hb h

section Heirs
variable {line : Count} {table : List Hide} {runs : List Run}

theorem joined_of_tagsLinked (hl : (table.map (fun h => h.tag)).Nodup) {a b : Hide} (ha : a ∈ table) (hb : b ∈ table)
    (h : tagsLinked (touchSets table runs) a.tag b.tag) : hidesJoined table runs a b := by
  obtain ⟨t, ht⟩ : ∃ t, t = b.tag := ⟨_, rfl⟩
  rw [← ht] at h
  induction h generalizing b with
  | refl =>
    rw [hide_of_tag hl ha hb ht]
    exact .refl
  | tail _ hstep ih =>
    obtain ⟨r, hr, hfrom, hto⟩ := shareTouch_touchSets.1 hstep
    obtain ⟨c, hc, htag⟩ := mem_touchSet.1 hfrom
    obtain ⟨d, hd, htag'⟩ := mem_touchSet.1 hto
    obtain rfl := hide_of_tag hl hd.1 hb (htag'.trans ht)
    exact (ih hc.1 htag.symm).tail ⟨r, hr, hc, hd⟩

/-! ### Groups with their survivors -/

theorem mem_resolvedGroups {g : Group} : g ∈ resolvedGroups line table runs ↔ ∃ tags ∈ mergeGroups table runs,
    ∃ e, survivorOf line (table.filter (fun h => decide (h.tag ∈ tags))) = some e ∧ g = ⟨tags, e.tag⟩ := by
  simp only [resolvedGroups, List.mem_filterMap, Option.map_eq_some_iff]
  exact exists_congr fun tags => and_congr_right fun _ => exists_congr fun e => and_congr_right fun _ => eq_comm

theorem resolvedGroups_apart {g g' : Group} (hg : g ∈ resolvedGroups line table runs)
    (hg' : g' ∈ resolvedGroups line table runs) {t : Tag} (ht : t ∈ g.tags) (ht' : t ∈ g'.tags) : g = g' := by
  obtain ⟨tags, htags, e, he, rfl⟩ := mem_resolvedGroups.1 hg
  obtain ⟨tags', htags', e', he', rfl⟩ := mem_resolvedGroups.1 hg'
  obtain rfl := eq_of_mem_apart (mergeGroups_grouped table runs).apart htags htags' ht ht'
  rw [Option.some.inj (he.symm.trans he')]

theorem groupOf_some_iff {t : Tag} {g : Group} : groupOf (resolvedGroups line table runs) t = some g ↔
    g ∈ resolvedGroups line table runs ∧ t ∈ g.tags := by
  constructor
  · intro h
    exact ⟨List.mem_of_find?_eq_some h, of_decide_eq_true (List.find?_some (p := fun g : Group => decide (t ∈ g.tags)) h)⟩
  · rintro ⟨hg, ht⟩
    cases h : groupOf (resolvedGroups line table runs) t with
    | none => exact absurd (decide_eq_true ht) (List.find?_eq_none.1 h g hg)
    | some g' =>
      have hin : t ∈ g'.tags := of_decide_eq_true (List.find?_some (p := fun g : Group => decide (t ∈ g.tags)) h)
      rw [resolvedGroups_apart hg (List.mem_of_find?_eq_some h) ht hin]

/-- The survivor of a group is a hide of it, and outlasts every one of them (R40). -/
theorem resolvedGroups_survivor {g : Group} (hg : g ∈ resolvedGroups line table runs) :
    ∃ e ∈ table, e.tag = g.survivor ∧ e.tag ∈ g.tags ∧ ∀ b ∈ table, b.tag ∈ g.tags → outlasts line e b := by
  obtain ⟨tags, -, e, he, rfl⟩ := mem_resolvedGroups.1 hg
  have hne : table.filter (fun h => decide (h.tag ∈ tags)) ≠ [] := by
    intro hnil
    rw [hnil] at he
    exact absurd he nofun
  obtain ⟨e', he', hsurvivor, hall⟩ := survivorOf_spec line hne
  obtain rfl := Option.some.inj (he.symm.trans hsurvivor)
  obtain ⟨hin, htag⟩ := List.mem_filter.1 he'
  exact ⟨e, hin, rfl, of_decide_eq_true htag, fun b hb hbt => hall b (List.mem_filter.2 ⟨hb, decide_eq_true hbt⟩)⟩

/-- Every hide that a run meets is in a group. -/
theorem exists_group_of_meets {r : Run} (hr : r ∈ runs) {a : Hide} (ha : meetsIn table r a) :
    ∃ g ∈ resolvedGroups line table runs, a.tag ∈ g.tags := by
  obtain ⟨tags, htags, hin⟩ := ((mergeGroups_grouped table runs).covers a.tag).2
    ⟨touchSet table r, List.mem_map_of_mem hr, mem_touchSet.2 ⟨a, ha, rfl⟩⟩
  have hne : table.filter (fun h => decide (h.tag ∈ tags)) ≠ [] :=
    List.ne_nil_of_mem (List.mem_filter.2 ⟨ha.1, decide_eq_true hin⟩)
  obtain ⟨e, -, he, -⟩ := survivorOf_spec line hne
  exact ⟨⟨tags, e.tag⟩, mem_resolvedGroups.2 ⟨tags, htags, e, he, rfl⟩, hin⟩

/-- Hides met by one run are in one group. -/
theorem mem_group_of_meets {r : Run} (hr : r ∈ runs) {a b : Hide} (ha : meetsIn table r a) (hb : meetsIn table r b)
    {g : Group} (hg : g ∈ resolvedGroups line table runs) (hin : a.tag ∈ g.tags) : b.tag ∈ g.tags := by
  obtain ⟨tags, htags, e, -, rfl⟩ := mem_resolvedGroups.1 hg
  exact (mergeGroups_grouped table runs).closed tags htags a.tag hin b.tag (shareTouch_touchSets.2
    ⟨r, hr, mem_touchSet.2 ⟨a, ha, rfl⟩, mem_touchSet.2 ⟨b, hb, rfl⟩⟩)

/-! ### Heirs -/

/-- The tag that the merges leave for a tag: the survivor of its group, or itself (R40, R41). -/
def heir (groups : List Group) (t : Tag) : Tag := ((groupOf groups t).map (fun g => g.survivor)).getD t

theorem heir_of_mem {g : Group} (hg : g ∈ resolvedGroups line table runs) {t : Tag} (ht : t ∈ g.tags) :
    heir (resolvedGroups line table runs) t = g.survivor := by
  rw [heir, groupOf_some_iff.2 ⟨hg, ht⟩]
  rfl

theorem heir_of_none {groups : List Group} {t : Tag} (h : groupOf groups t = none) : heir groups t = t := by
  rw [heir, h]
  rfl

/-- A tag has the survivor of a group for its heir exactly when it is in the group. -/
theorem heir_eq_survivor_iff {g : Group} (hg : g ∈ resolvedGroups line table runs) {t : Tag} :
    heir (resolvedGroups line table runs) t = g.survivor ↔ t ∈ g.tags := by
  refine ⟨fun h => ?_, heir_of_mem hg⟩
  obtain ⟨e, -, hsurvivor, hin, -⟩ := resolvedGroups_survivor hg
  cases hgroup : groupOf (resolvedGroups line table runs) t with
  | none =>
    rw [heir_of_none hgroup] at h
    rwa [h, ← hsurvivor]
  | some g' =>
    obtain ⟨hg', ht'⟩ := groupOf_some_iff.1 hgroup
    obtain ⟨e', -, hsurvivor', hin', -⟩ := resolvedGroups_survivor hg'
    rw [heir_of_mem hg' ht'] at h
    have hshared : e'.tag ∈ g.tags := by
      rw [hsurvivor', h, ← hsurvivor]
      exact hin
    rwa [resolvedGroups_apart hg hg' hshared hin']

/-- A tag in no group is the heir of itself alone. -/
theorem eq_of_heir_eq {t t' : Tag} (hnone : groupOf (resolvedGroups line table runs) t = none)
    (h : heir (resolvedGroups line table runs) t' = t) : t' = t := by
  cases hgroup : groupOf (resolvedGroups line table runs) t' with
  | none => rwa [heir_of_none hgroup] at h
  | some g =>
    obtain ⟨hg, ht'⟩ := groupOf_some_iff.1 hgroup
    obtain ⟨e, -, hsurvivor, hin, -⟩ := resolvedGroups_survivor hg
    rw [heir_of_mem hg ht', ← hsurvivor] at h
    rw [h] at hin
    rw [groupOf_some_iff.2 ⟨hg, hin⟩] at hnone
    exact absurd hnone nofun

/-- The heir of a hide is a hide of the table, its own heir, and outlasts every hide of the same heir. -/
theorem heir_spec {a : Hide} (ha : a ∈ table) :
    ∃ e ∈ table, e.tag = heir (resolvedGroups line table runs) a.tag
      ∧ heir (resolvedGroups line table runs) e.tag = e.tag := by
  cases hgroup : groupOf (resolvedGroups line table runs) a.tag with
  | none => exact ⟨a, ha, (heir_of_none hgroup).symm, heir_of_none hgroup⟩
  | some g =>
    obtain ⟨hg, hin⟩ := groupOf_some_iff.1 hgroup
    obtain ⟨e, he, hsurvivor, hein, -⟩ := resolvedGroups_survivor hg
    exact ⟨e, he, hsurvivor.trans (heir_of_mem hg hin).symm, (heir_of_mem hg hein).trans hsurvivor.symm⟩

theorem heir_outlasts (hl : (table.map (fun h => h.tag)).Nodup) {e b : Hide} (he : e ∈ table)
    (hb : b ∈ table) (h : heir (resolvedGroups line table runs) b.tag = e.tag) : outlasts line e b := by
  cases hgroup : groupOf (resolvedGroups line table runs) e.tag with
  | none =>
    obtain rfl := hide_of_tag hl hb he (eq_of_heir_eq hgroup h)
    exact .inr ⟨rfl, Nat.le_refl _⟩
  | some g =>
    obtain ⟨hg, hin⟩ := groupOf_some_iff.1 hgroup
    obtain ⟨e', he', hsurvivor, hein', hall⟩ := resolvedGroups_survivor hg
    cases hgroup' : groupOf (resolvedGroups line table runs) b.tag with
    | none =>
      rw [heir_of_none hgroup'] at h
      obtain rfl := hide_of_tag hl hb he h
      exact .inr ⟨rfl, Nat.le_refl _⟩
    | some g' =>
      obtain ⟨hg', hin'⟩ := groupOf_some_iff.1 hgroup'
      obtain ⟨e'', he'', hsurvivor', hein'', hall'⟩ := resolvedGroups_survivor hg'
      rw [heir_of_mem hg' hin', ← hsurvivor'] at h
      obtain rfl := hide_of_tag hl he'' he h
      exact hall' b hb hin'

/-- Hides are joined exactly when they have the same heir (R40). -/
theorem joined_iff_heir (hl : (table.map (fun h => h.tag)).Nodup) {a b : Hide} (ha : a ∈ table) (hb : b ∈ table) :
    hidesJoined table runs a b ↔
      heir (resolvedGroups line table runs) a.tag = heir (resolvedGroups line table runs) b.tag := by
  constructor
  · intro h
    induction h with
    | refl => rfl
    | tail _ hstep ih =>
      obtain ⟨r, hr, hc, hd⟩ := hstep
      obtain ⟨g, hg, hin⟩ := exists_group_of_meets (line := line) hr hc
      rw [ih hc.1, heir_of_mem hg hin, heir_of_mem hg (mem_group_of_meets hr hc hd hg hin)]
  · intro h
    cases hgroup : groupOf (resolvedGroups line table runs) a.tag with
    | none =>
      rw [heir_of_none hgroup] at h
      obtain rfl := hide_of_tag hl hb ha (eq_of_heir_eq hgroup h.symm)
      exact .refl
    | some g =>
      obtain ⟨hg, hin⟩ := groupOf_some_iff.1 hgroup
      rw [heir_of_mem hg hin] at h
      have hin' := (heir_eq_survivor_iff hg).1 h.symm
      obtain ⟨tags, htags, e, -, rfl⟩ := mem_resolvedGroups.1 hg
      exact joined_of_tagsLinked hl ha hb ((mergeGroups_grouped table runs).linked tags htags _ hin _ hin')

/-! ### The table after the merges (R41) -/

/-- The other hides of the table that leave their leather to this one. -/
def heirTo (groups : List Group) (table : List Hide) (h : Hide) : List Hide :=
  table.filter (fun b => decide (heir groups b.tag = h.tag) && !decide (b.tag = h.tag))

theorem merged_eq (h : Hide) : merged (resolvedGroups line table runs) table h =
    if heir (resolvedGroups line table runs) h.tag = h.tag then
      some ((heirTo (resolvedGroups line table runs) table h).foldl absorb h) else none := by
  unfold merged
  split
  · rename_i hgroup
    have hnobody : heirTo (resolvedGroups line table runs) table h = [] := by
      refine List.filter_eq_nil_iff.2 fun b _ hb => ?_
      simp only [Bool.and_eq_true, decide_eq_true_eq, Bool.not_eq_true', decide_eq_false_iff_not] at hb
      exact hb.2 (eq_of_heir_eq hgroup hb.1)
    rw [if_pos (heir_of_none hgroup), hnobody]
    rfl
  · rename_i g hgroup
    obtain ⟨hg, hin⟩ := groupOf_some_iff.1 hgroup
    rw [heir_of_mem hg hin]
    by_cases hsurvives : h.tag = g.survivor
    · have hothers : heirTo (resolvedGroups line table runs) table h
          = table.filter (fun b => decide (b.tag ∈ g.tags) && !decide (b.tag = h.tag)) :=
        List.filter_congr fun b _ => by simp only [hsurvives, heir_eq_survivor_iff hg]
      rw [if_pos hsurvives, if_pos hsurvives.symm, hothers]
    · rw [if_neg hsurvives, if_neg (Ne.symm hsurvives)]

theorem filterMap_if {α β : Type} (p : α → Bool) (g : α → β) (l : List α) :
    l.filterMap (fun a => if p a = true then some (g a) else none) = (l.filter p).map g := by
  induction l with
  | nil => rfl
  | cons a rest ih => cases h : p a <;> simp [h, ih]

theorem mergedTable_heirs : mergedTable (resolvedGroups line table runs) table =
    (table.filter (fun h => decide (heir (resolvedGroups line table runs) h.tag = h.tag))).map
      (fun h => (heirTo (resolvedGroups line table runs) table h).foldl absorb h) := by
  rw [mergedTable_eq, ← filterMap_if]
  refine List.filterMap_congr fun h _ => ?_
  rw [merged_eq]
  simp only [decide_eq_true_eq]

theorem mem_mergedTable {h : Hide} : h ∈ mergedTable (resolvedGroups line table runs) table ↔
    ∃ a ∈ table, heir (resolvedGroups line table runs) a.tag = a.tag
      ∧ h = (heirTo (resolvedGroups line table runs) table a).foldl absorb a := by
  simp only [mergedTable_heirs, List.mem_map, List.mem_filter, decide_eq_true_eq, and_assoc]
  exact exists_congr fun a => and_congr_right fun _ => and_congr_right fun _ => eq_comm

theorem mem_heirTo (hl : (table.map (fun h => h.tag)).Nodup) {a : Hide} (ha : a ∈ table)
    (hself : heir (resolvedGroups line table runs) a.tag = a.tag) (b : Hide) :
    b ∈ heirTo (resolvedGroups line table runs) table a ↔ b ≠ a ∧ b ∈ table ∧ hidesJoined table runs a b := by
  simp only [heirTo, List.mem_filter, Bool.and_eq_true, decide_eq_true_eq, Bool.not_eq_true', decide_eq_false_iff_not]
  constructor
  · rintro ⟨hb, hheir, hne⟩
    exact ⟨fun h => hne (by rw [h]), hb, (joined_iff_heir (line := line) hl ha hb).2 (hself.trans hheir.symm)⟩
  · rintro ⟨hne, hb, hjoined⟩
    refine ⟨hb, ?_, fun h => hne (hide_of_tag hl hb ha h)⟩
    rw [← (joined_iff_heir (line := line) hl ha hb).1 hjoined, hself]

end Heirs

/-! ### What a survivor gains (R41) -/

section Absorb
variable (l : List Hide) (a : Hide)

theorem foldl_absorb_widthSum : (l.foldl absorb a).widthSum = a.widthSum + (l.map (fun b => b.widthSum)).sum := by
  induction l generalizing a with
  | nil => rfl
  | cons b rest ih => rw [List.foldl_cons, ih, List.map_cons, List.sum_cons, ← Nat.add_assoc]; rfl

theorem foldl_absorb_fillSum : (l.foldl absorb a).fillSum = a.fillSum + (l.map (fun b => b.fillSum)).sum := by
  induction l generalizing a with
  | nil => rfl
  | cons b rest ih => rw [List.foldl_cons, ih, List.map_cons, List.sum_cons, ← Nat.add_assoc]; rfl

theorem foldl_absorb_left : (l.foldl absorb a).left = l.foldl (fun m b => min m b.left) a.left := by
  induction l generalizing a with
  | nil => rfl
  | cons b rest ih => exact ih (absorb a b)

theorem foldl_absorb_right : (l.foldl absorb a).right = l.foldl (fun m b => max m b.right) a.right := by
  induction l generalizing a with
  | nil => rfl
  | cons b rest ih => exact ih (absorb a b)

theorem foldl_absorb_covered : (l.foldl absorb a).covered = l.foldl (fun m b => max m b.covered) a.covered := by
  induction l generalizing a with
  | nil => rfl
  | cons b rest ih => exact ih (absorb a b)

/-- What a survivor keeps of itself (R41, R99). -/
theorem foldl_absorb_kept : (l.foldl absorb a).lane = a.lane ∧ (l.foldl absorb a).firstLine = a.firstLine
    ∧ (l.foldl absorb a).firstPos = a.firstPos ∧ (l.foldl absorb a).lastLine = a.lastLine
    ∧ (l.foldl absorb a).gap = a.gap ∧ (l.foldl absorb a).lastRuns = a.lastRuns ∧ (l.foldl absorb a).spot = a.spot := by
  induction l generalizing a with
  | nil => exact ⟨rfl, rfl, rfl, rfl, rfl, rfl, rfl⟩
  | cons b rest ih => exact ih (absorb a b)

variable {l} in
theorem foldl_absorb_pieces (h : l ≠ []) :
    (l.foldl absorb a).pieces = min (a.pieces + (l.map (fun b => b.pieces)).sum) 16 := by
  induction l generalizing a with
  | nil => exact absurd rfl h
  | cons b rest ih =>
    by_cases hrest : rest = []
    · subst hrest
      rfl
    · rw [List.foldl_cons, ih _ hrest, List.map_cons, List.sum_cons]
      show min (min (a.pieces + b.pieces) 16 + _) 16 = _
      omega

theorem foldl_absorb_joined : (l.foldl absorb a).flags ||| 0x0001#16
    = l.foldl (fun f b => f ||| b.flags) (a.flags ||| 0x0001#16) := by
  induction l generalizing a with
  | nil => rfl
  | cons b rest ih =>
    have hstep : (absorb a b).flags ||| 0x0001#16 = a.flags ||| 0x0001#16 ||| b.flags := by
      show a.flags ||| b.flags ||| 0x0001#16 ||| 0x0001#16 = _
      rw [BitVec.or_assoc, BitVec.or_self, BitVec.or_assoc, BitVec.or_comm b.flags, ← BitVec.or_assoc]
    rw [List.foldl_cons, ih, hstep, List.foldl_cons]

variable {l} in
theorem foldl_absorb_flags (h : l ≠ []) :
    (l.foldl absorb a).flags = l.foldl (fun f b => f ||| b.flags) (a.flags ||| 0x0001#16) := by
  rw [← foldl_absorb_joined]
  obtain ⟨front, b, rfl⟩ := (List.eq_nil_or_concat' l).resolve_left h
  rw [List.foldl_append]
  show (front.foldl absorb a).flags ||| b.flags ||| 0x0001#16 = _ ||| _ ||| 0x0001#16 ||| 0x0001#16
  rw [BitVec.or_assoc _ 0x0001#16, BitVec.or_self]

end Absorb

/-! ### Sums over the table -/

section Sums
variable {line : Count} {table : List Hide} {runs : List Run}

/-- Every hide of the table leaves its share to one hide: sums over the table stay as they were (R41). -/
theorem sum_heirs (hl : (table.map (fun h => h.tag)).Nodup) (w : Hide → Nat) :
    ((table.filter (fun h => decide (heir (resolvedGroups line table runs) h.tag = h.tag))).map
      (fun h => w h + ((heirTo (resolvedGroups line table runs) table h).map w).sum)).sum = (table.map w).sum := by
  have hnodup : table.Nodup := hl.of_map _
  have hshare {h : Hide} (hh : h ∈ table) (hself : heir (resolvedGroups line table runs) h.tag = h.tag) :
      w h + ((heirTo (resolvedGroups line table runs) table h).map w).sum
        = ∑ b ∈ table.toFinset with heir (resolvedGroups line table runs) b.tag = h.tag, w b := by
    have hothers : (heirTo (resolvedGroups line table runs) table h).Nodup := hnodup.filter _
    rw [← List.sum_toFinset w hothers, ← Finset.sum_insert (a := h) (f := w)]
    · refine Finset.sum_congr (Finset.ext fun b => ?_) fun _ _ => rfl
      simp only [heirTo, Finset.mem_insert, List.mem_toFinset, List.mem_filter, Bool.and_eq_true, decide_eq_true_eq,
        Bool.not_eq_true', decide_eq_false_iff_not, Finset.mem_filter]
      constructor
      · rintro (rfl | ⟨hb, hheir, -⟩)
        · exact ⟨hh, hself⟩
        · exact ⟨hb, hheir⟩
      · rintro ⟨hb, hheir⟩
        by_cases heq : b.tag = h.tag
        · exact .inl (hide_of_tag hl hb hh heq)
        · exact .inr ⟨hb, hheir, heq⟩
    · simp [heirTo]
  have hsum : ((table.filter (fun h => decide (heir (resolvedGroups line table runs) h.tag = h.tag))).map
      (fun h => w h + ((heirTo (resolvedGroups line table runs) table h).map w).sum)).sum
      = ∑ h ∈ table.toFinset with heir (resolvedGroups line table runs) h.tag = h.tag,
        ∑ b ∈ table.toFinset with heir (resolvedGroups line table runs) b.tag = h.tag, w b := by
    rw [← List.sum_toFinset _ (hnodup.filter _), List.toFinset_filter]
    simp only [decide_eq_true_eq]
    refine Finset.sum_congr rfl fun h hh => ?_
    obtain ⟨hin, hself⟩ := Finset.mem_filter.1 hh
    exact hshare (List.mem_toFinset.1 hin) hself
  have hinj : Set.InjOn (fun h : Hide => h.tag)
      (table.toFinset.filter (fun h => heir (resolvedGroups line table runs) h.tag = h.tag)) := by
    intro a ha b hb hab
    rw [Finset.mem_coe, Finset.mem_filter, List.mem_toFinset] at ha hb
    exact hide_of_tag hl ha.1 hb.1 hab
  rw [hsum, ← Finset.sum_image (f := fun t => ∑ b ∈ table.toFinset with
    heir (resolvedGroups line table runs) b.tag = t, w b) hinj, Finset.sum_fiberwise_of_maps_to,
    List.sum_toFinset _ hnodup]
  intro b hb
  obtain ⟨e, he, htag, hself⟩ := heir_spec (line := line) (runs := runs) (List.mem_toFinset.1 hb)
  exact Finset.mem_image.2 ⟨e, Finset.mem_filter.2 ⟨List.mem_toFinset.2 he, hself⟩, htag⟩

end Sums

/-- A hide that is no older, and another, has the higher tag where it is as old (R40). -/
theorem outlasts_strict {line : Count} {a b : Hide} (h : outlasts line a b) (hne : b.tag ≠ a.tag) :
    (line - b.firstLine).toNat < (line - a.firstLine).toNat
      ∨ ((line - b.firstLine).toNat = (line - a.firstLine).toNat ∧ a.tag.toNat < b.tag.toNat) := by
  have htags : a.tag.toNat ≠ b.tag.toNat := fun heq => hne (BitVec.eq_of_toNat_eq heq.symm)
  exact h.imp_right fun ⟨hage, hle⟩ => ⟨hage, Nat.lt_of_le_of_ne hle htags⟩

theorem assignedTag_none {groups : List Group} {table : List Hide} {r : Run} (h : ∀ a, ¬meetsIn table r a) :
    assignedTag groups table r = none := by
  have hnil : touchSet table r = [] := List.eq_nil_iff_forall_not_mem.2 fun t ht => by
    obtain ⟨a, ha, -⟩ := mem_touchSet.1 ht
    exact h a ha
  rw [assignedTag, hnil]

/-- A run that meets hides goes to the heir of the first of them (R42). -/
theorem assignedTag_some {line : Count} {table : List Hide} {runs : List Run} {r : Run} (hr : r ∈ runs) {a : Hide}
    (ha : meetsIn table r a) : ∃ c, meetsIn table r c
      ∧ assignedTag (resolvedGroups line table runs) table r = some (heir (resolvedGroups line table runs) c.tag) := by
  cases htouch : touchSet table r with
  | nil =>
    have hin : a.tag ∈ touchSet table r := mem_touchSet.2 ⟨a, ha, rfl⟩
    rw [htouch] at hin
    exact absurd hin List.not_mem_nil
  | cons t rest =>
    have hin : t ∈ touchSet table r := by
      rw [htouch]
      exact List.mem_cons_self
    obtain ⟨c, hc, rfl⟩ := mem_touchSet.1 hin
    obtain ⟨g, hg, hcg⟩ := exists_group_of_meets (line := line) hr hc
    refine ⟨c, hc, ?_⟩
    rw [assignedTag, htouch]
    simp only
    rw [groupOf_some_iff.2 ⟨hg, hcg⟩, heir_of_mem hg hcg]
    rfl

/-- Settles O16: each group leaves its heir, which gains what the others hold; runs go to it; sums and tags stand. -/
theorem mergesKeepTheLeatherAndTheOldest : Obligations.MergesKeepTheLeatherAndTheOldest := by
  refine ⟨fun line table runs hl => ?_, fun line hides hne => survivorOf_spec line hne⟩
  intro groups merged meets joined
  have hjoined {a b : Hide} (ha : a ∈ table) (hb : b ∈ table) : joined a b ↔ heir groups a.tag = heir groups b.tag :=
    joined_iff_heir hl ha hb
  have hleft {a : Hide} (ha : a ∈ table) : ∃ e ∈ table, e.tag = heir groups a.tag ∧ heir groups e.tag = e.tag :=
    heir_spec ha
  have hmerged {h : Hide} : h ∈ merged ↔ ∃ a ∈ table, heir groups a.tag = a.tag
      ∧ h = (heirTo groups table a).foldl absorb a := mem_mergedTable
  refine ⟨fun h hh => ?_, fun a ha => ?_, fun r _ hnone => assignedTag_none hnone, fun r hr a ha => ?_, ?_, ?_,
    hl.sublist (mergedTable_tags_sublist groups table)⟩
  · obtain ⟨a, ha, hself, rfl⟩ := hmerged.1 hh
    have hothers := mem_heirTo hl ha hself
    refine ⟨a, ha, heirTo groups table a, (hl.of_map _).filter _, hothers, fun b hb => ?_, fun hnil => ?_, fun hsome => ?_⟩
    · obtain ⟨hne, hbin, hbjoined⟩ := (hothers b).1 hb
      exact outlasts_strict (heir_outlasts hl ha hbin (((hjoined ha hbin).1 hbjoined).symm.trans hself))
        fun htag => hne (hide_of_tag hl hbin ha htag)
    · rw [hnil]
      rfl
    · obtain ⟨hlane, hfirst, hpos, hlast, hgap, hruns, hspot⟩ := foldl_absorb_kept (heirTo groups table a) a
      have hl' := foldl_min_spec (fun b : Hide => b.left) (heirTo groups table a) a.left
      have hr' := foldl_max_spec (fun b : Hide => b.right) (heirTo groups table a) a.right
      have hc' := foldl_max_spec (fun b : Hide => b.covered) (heirTo groups table a) a.covered
      rw [← foldl_absorb_left] at hl'
      rw [← foldl_absorb_right] at hr'
      rw [← foldl_absorb_covered] at hc'
      refine ⟨foldl_absorb_tag _ _, hlane, hfirst, hpos, hlast, hgap, hruns, hspot, foldl_absorb_widthSum _ _,
        foldl_absorb_fillSum _ _, foldl_absorb_pieces _ hsome, List.forall_mem_cons.2 ⟨⟨hl'.1.1, hr'.1.1, hc'.1.1⟩,
          fun b hb => ⟨hl'.1.2 b hb, hr'.1.2 b hb, hc'.1.2 b hb⟩⟩, ?_, ?_, ?_, foldl_absorb_flags _ hsome⟩
      · exact (List.exists_mem_cons_iff ..).2 hl'.2
      · exact (List.exists_mem_cons_iff ..).2 hr'.2
      · exact (List.exists_mem_cons_iff ..).2 hc'.2
  · obtain ⟨e, he, htag, hself⟩ := hleft ha
    refine ⟨(heirTo groups table e).foldl absorb e, ⟨hmerged.2 ⟨e, he, hself, rfl⟩, e, he, (foldl_absorb_tag _ _).symm,
      (hjoined ha he).2 (htag.symm.trans hself.symm)⟩, fun h' hh' => ?_⟩
    obtain ⟨hin, b, hb, hbtag, hbjoined⟩ := hh'
    obtain ⟨a', ha', hself', rfl⟩ := hmerged.1 hin
    rw [foldl_absorb_tag] at hbtag
    obtain rfl := hide_of_tag hl hb ha' hbtag
    have hsame : b.tag = e.tag := hself'.symm.trans (((hjoined ha hb).1 hbjoined).symm.trans htag.symm)
    rw [hide_of_tag hl hb he hsame]
  · obtain ⟨c, hc, hassigned⟩ := assignedTag_some (line := line) hr ha
    obtain ⟨e, he, htag, hself⟩ := hleft hc.1
    refine ⟨(heirTo groups table e).foldl absorb e, hmerged.2 ⟨e, he, hself, rfl⟩, ?_, e, he,
      (foldl_absorb_tag _ _).symm, ?_⟩
    · rw [foldl_absorb_tag, htag]
      exact hassigned
    · have hmet : joined a c := .single ⟨r, hr, ha, hc⟩
      rw [hjoined ha.1 he, (hjoined ha.1 hc.1).1 hmet, hself, htag]
  · have hsum := sum_heirs (line := line) (runs := runs) hl (fun h => h.widthSum)
    simp only [← foldl_absorb_widthSum] at hsum
    rw [show merged = _ from mergedTable_heirs, List.map_map]
    exact hsum
  · have hsum := sum_heirs (line := line) (runs := runs) hl (fun h => h.fillSum)
    simp only [← foldl_absorb_fillSum] at hsum
    rw [show merged = _ from mergedTable_heirs, List.map_map]
    exact hsum

end Sys2Proof.Machine

/-! Orders and channels (chapter 7): an order put in a state, the arming check with nobody waiting, and the frames READY,
DONE and FAULT. -/

namespace Sys2Proof.Machine

/-! ### Orders in the transit list -/

/-- The tags of the transit list are distinct. -/
def State.ordersDistinct (s : State) : Prop := (s.tru.transit.map (fun x => x.tag)).Nodup

/-- The order of a tag put in a state, with no flag added. -/
theorem putOrder_zero (tag : Tag) (st : OrderState) (s : State) : putOrder tag st 0#16 s = { s with
    tru := { s.tru with transit := s.tru.transit.map (fun x =>
      if x.tag = tag then { x with stamp := x.stamp.map (fun o => { o with state := st }) } else x) } } := by
  refine congrArg (fun l => ({ s with tru := { s.tru with transit := l } } : State)) (List.map_congr_left fun x _ => ?_)
  by_cases htag : x.tag = tag
  · cases hstamp : x.stamp with
    | none =>
      refine (if_neg fun h => nomatch h.2).trans (Eq.trans ?_ (if_pos htag).symm)
      exact congrArg (fun p => ({ x with stamp := p } : Entry)) hstamp
    | some o => rw [if_pos ⟨htag, rfl⟩, if_pos htag, BitVec.or_zero]
  · rw [if_neg fun h => htag h.1, if_neg htag]

/-- The order of an entry put in a state, where no tag is held twice. -/
theorem putOrder_entry {s : State} (hl : s.ordersDistinct) {e : Entry} {o : Order} (he : e ∈ s.tru.transit)
    (ho : e.stamp = some o) (st : OrderState) (flags : FlagSet) : putOrder e.tag st flags s = { s with
      tru := { s.tru with transit := s.tru.transit.map (fun x =>
        if x.tag = e.tag then { x with stamp := some { o with state := st }, flags := x.flags ||| flags } else x) } } := by
  refine congrArg (fun l => ({ s with tru := { s.tru with transit := l } } : State)) (List.map_congr_left fun x hx => ?_)
  by_cases htag : x.tag = e.tag
  · obtain rfl := List.inj_on_of_nodup_map hl hx he htag
    rw [if_pos ⟨rfl, by rw [ho]; rfl⟩, if_pos rfl, ho]
    rfl
  · rw [if_neg fun h => htag h.1, if_neg htag]

theorem putOrder_entry_zero {s : State} (hl : s.ordersDistinct) {e : Entry} {o : Order} (he : e ∈ s.tru.transit)
    (ho : e.stamp = some o) (st : OrderState) : putOrder e.tag st 0#16 s = { s with
      tru := { s.tru with transit := s.tru.transit.map (fun x =>
        if x.tag = e.tag then { x with stamp := some { o with state := st } } else x) } } := by
  rw [putOrder_entry hl he ho]
  simp only [BitVec.or_zero]

/-- An order put in one state and then in another is put in the other. -/
theorem putOrder_putOrder (tag : Tag) (st st' : OrderState) (s : State) :
    putOrder tag st' 0#16 (putOrder tag st 0#16 s) = putOrder tag st' 0#16 s := by
  rw [putOrder_zero, putOrder_zero, putOrder_zero]
  simp only [List.map_map]
  refine congrArg (fun l => ({ s with tru := { s.tru with transit := l } } : State)) (List.map_congr_left fun x _ => ?_)
  simp only [Function.comp_apply]
  by_cases htag : x.tag = tag
  · rw [if_pos htag, if_pos htag, if_pos htag, Option.map_map]
    rfl
  · rw [if_neg htag, if_neg htag]

theorem ordersDistinct_putOrder {s : State} (hl : s.ordersDistinct) (tag : Tag) (st : OrderState) (flags : FlagSet) :
    (putOrder tag st flags s).ordersDistinct := by
  have htags : (putOrder tag st flags s).tru.transit.map (fun x => x.tag) = s.tru.transit.map (fun x => x.tag) :=
    (putOrder_stock tag st flags s).tags
  rw [State.ordersDistinct, htags]
  exact hl

/-- An entry stands in the list with its order in the state it was put in. -/
theorem mem_putOrder {s : State} {e : Entry} {o : Order} (he : e ∈ s.tru.transit) (ho : e.stamp = some o)
    (st : OrderState) : { e with stamp := some { o with state := st } } ∈ (putOrder e.tag st 0#16 s).tru.transit := by
  rw [putOrder_zero]
  exact List.mem_map.2 ⟨e, he, by rw [if_pos rfl, ho]; rfl⟩

/-! ### Nobody waiting (R110) -/

/-- No order waits for the head. -/
def nobodyWaits (h : Fin 4) (l : List Entry) : Prop :=
  ∀ x ∈ l, ∀ w ∈ x.stamp.toList, w.head = h → w.state ≠ .waiting

theorem waitingOrders_nobody {h : Fin 4} {l : List Entry} (hl : nobodyWaits h l) : waitingOrders h l = [] := by
  refine List.eq_nil_iff_forall_not_mem.2 fun y hy => ?_
  obtain ⟨x, hx, hsome⟩ := List.mem_filterMap.1 hy
  obtain ⟨o, ho, -⟩ := Option.map_eq_some_iff.1 hsome
  unfold Entry.orderFor at ho
  split at ho
  · exact absurd ho nofun
  · rename_i w hw
    obtain ⟨hwait, -⟩ := Option.ite_none_right_eq_some.1 ho
    exact hl x hx w (by rw [hw]; exact List.mem_singleton_self w) hwait.1 hwait.2

/-- With no order WAITING for the head the arming check does nothing (R110). -/
theorem armingCheck_nobody {h : Fin 4} {s : State} (hl : nobodyWaits h s.tru.transit) : armingCheck h s = s := by
  have hnone : earliest (waitingOrders h s.tru.transit) = none := by
    rw [waitingOrders_nobody hl]
    rfl
  unfold armingCheck
  simp only [hnone]
  cases (s.stc.get h).state <;> rfl

/-- On a channel ARMING, PRINTING or in FAULT the arming check does nothing (R110). -/
theorem armingCheck_busy {h : Fin 4} {s : State} (hst : (s.stc.get h).state = .arming ∨ (s.stc.get h).state = .printing
    ∨ (s.stc.get h).state = .fault) : armingCheck h s = s := by
  unfold armingCheck
  obtain hst | hst | hst := hst <;> simp only [hst]

theorem nobodyWaits_putOrder {h : Fin 4} {s : State} (hl : nobodyWaits h s.tru.transit) (tag : Tag) {st : OrderState}
    (hst : st ≠ .waiting) (flags : FlagSet) : nobodyWaits h (putOrder tag st flags s).tru.transit := by
  intro y hy w hw hhead
  obtain ⟨x, hx, rfl⟩ := List.mem_map.1 hy
  split at hw
  · obtain ⟨o, -, rfl⟩ := Option.map_eq_some_iff.1 (Option.mem_toList.1 hw)
    exact hst
  · exact hl x hx w hw hhead

/-! ### READY (R109, R111, R112) -/

/-- An event that leaves the state as it is leaves it so with the reset input asserted too. -/
theorem unlessReset_unchanged {s : State} {f : State → State} (hf : f s = s) : unlessReset s f = .next s := by
  rw [unlessReset, hf, ite_self]

theorem headCrc_ready (tag : Tag) : headCrc readyKind tag [] = crc16 (0x81#8 :: bytes16 tag) := by
  rw [headCrc, List.append_nil]
  rfl

theorem exec_ready {h : Fin 4} {tag : Tag} {s : State} (hrel : s.pins.resetAsserted = false) :
    exec (.ready h tag (crc16 (0x81#8 :: bytes16 tag))) s = .next (acceptReady h tag s) :=
  (unlessReset_released hrel _).trans (congrArg _ (if_pos (headCrc_ready tag).symm))

/-- The state with the order ARMED after READY (R111). -/
def State.readied (h : Fin 4) (tag : Tag) (s : State) : State :=
  setChannel h { s.stc.get h with state := .armed, armTimer := false } (putOrder tag .armed 0#16 s)

theorem acceptReady_ordered {h : Fin 4} {s : State} {e : Entry} {o : Order} (hstate : (s.stc.get h).state = .arming)
    (htag : (s.stc.get h).tag = some e.tag) (he : e ∈ s.tru.transit) (ho : e.stamp = some o) (hhead : o.head = h)
    (hl : s.ordersDistinct) : acceptReady h e.tag s =
      if reached s.tcu.hwm o.fire then fireOrder h e.tag (s.readied h e.tag) else armingCheck h (s.readied h e.tag) := by
  have hhand : orderInHand h (s.readied h e.tag) = some (e.tag, { o with state := .armed }) := by
    refine orderInHand_of_mem (e := { e with stamp := some { o with state := .armed } }) (s := s.readied h e.tag)
      (ordersDistinct_putOrder hl _ _ _) (mem_putOrder he ho .armed) rfl hhead ?_
    rw [State.readied, setChannel, Quad.get_set_same]
    exact htag
  unfold acceptReady
  rw [if_pos ⟨hstate, htag⟩]
  show (match orderInHand h (s.readied h e.tag) with
    | none => s.readied h e.tag
    | some (t, o) => if reached s.tcu.hwm o.fire then fireOrder h t (s.readied h e.tag)
      else armingCheck h (s.readied h e.tag)) = _
  rw [hhand]

theorem fireOrder_readied (h : Fin 4) (tag : Tag) (s : State) : fireOrder h tag (s.readied h tag) =
    setChannel h { s.stc.get h with
      state := .printing
      armTimer := false
      printTimer := true
      sent := (s.stc.get h).sent ++ [headFrame 0x02#8 tag []] } (putOrder tag .firing 0#16 s) := by
  have hput : putOrder tag .firing 0#16 (s.readied h tag) =
      setChannel h { s.stc.get h with state := .armed, armTimer := false } (putOrder tag .firing 0#16 s) :=
    congrArg (setChannel h _) (putOrder_putOrder tag .armed .firing s)
  have hchannel : (s.readied h tag).stc.get h = { s.stc.get h with state := .armed, armTimer := false } :=
    Quad.get_set_same ..
  unfold fireOrder
  rw [hput, hchannel]
  simp only [setChannel, Quad.set_set]
  rfl

/-- Settles O22: READY at a fire position reached and not, and the frames that are discarded. -/
theorem readyArmsOrFires : Obligations.ReadyArmsOrFires := by
  constructor
  · intro h e o s hrel hstate htag he ho hhead hl put frame armed
    have hframe : frame = .next (acceptReady h e.tag s) := exec_ready hrel
    have harmed : s.readied h e.tag = armed := by
      rw [State.readied, putOrder_entry_zero hl he ho]
      rfl
    have haccept := acceptReady_ordered hstate htag he ho hhead hl
    rw [hframe, haccept, harmed]
    refine ⟨fun hreached => ?_, fun hnot => ?_, fun hnot hnobody => ?_⟩
    · rw [if_pos hreached, ← harmed, fireOrder_readied, putOrder_entry_zero hl he ho]
      rfl
    · rw [if_neg (by rw [hnot]; nofun)]
    · rw [if_neg (by rw [hnot]; nofun), ← harmed]
      refine congrArg _ (armingCheck_nobody ?_)
      exact nobodyWaits_putOrder hnobody e.tag (by nofun) 0#16
  · intro h tag crc s hwrong
    refine unlessReset_unchanged (ite_eq_right_iff.2 fun hcrc => if_neg fun hinHand => ?_)
    obtain hbad | hstate | htag := hwrong
    · exact hbad (hcrc.trans (headCrc_ready tag))
    · exact hstate hinHand.1
    · exact htag hinHand.2

/-! ### DONE (R109, R113) -/

theorem headCrc_done (tag : Tag) : headCrc doneKind tag [] = crc16 (0x82#8 :: bytes16 tag) := by
  rw [headCrc, List.append_nil]
  rfl

theorem exec_done {h : Fin 4} {tag : Tag} {s : State} (hrel : s.pins.resetAsserted = false) :
    exec (.done h tag (crc16 (0x82#8 :: bytes16 tag))) s = .next (acceptDone h tag s) :=
  (unlessReset_released hrel _).trans (congrArg _ (if_pos (headCrc_done tag).symm))

/-- Settles O23: DONE of an attached and of a detached print, and the frames that are discarded. -/
theorem doneEndsThePrint : Obligations.DoneEndsThePrint := by
  constructor
  · intro h tag s hrel hstate htag frame freed printed ended
    have hprinted : putOrder tag .done 0#16 freed = printed := putOrder_zero ..
    have hended : (if (s.stc.get h).detached then freed else putOrder tag .done 0#16 freed) = ended := by
      rw [hprinted]
    have hframe : frame = .next (armingCheck h ended) := by
      refine (exec_done hrel).trans (congrArg _ ?_)
      rw [← hended]
      exact if_pos ⟨hstate, htag⟩
    refine ⟨hframe, fun hnobody => hframe.trans (congrArg _ (armingCheck_nobody ?_))⟩
    rw [← hended]
    split
    · exact hnobody
    · exact nobodyWaits_putOrder (s := freed) hnobody tag (st := .done) nofun 0#16
  · intro h tag crc s hwrong
    refine unlessReset_unchanged (ite_eq_right_iff.2 fun hcrc => if_neg fun hinHand => ?_)
    obtain hbad | hstate | htag := hwrong
    · exact hbad (hcrc.trans (headCrc_done tag))
    · exact hstate hinHand.1
    · exact htag hinHand.2

/-! ### Faults of a head (R114 to R116) -/

theorem headCrc_fault (tag : Tag) (code : Byte) :
    headCrc faultKind tag [code] = crc16 (0x83#8 :: (bytes16 tag ++ [code])) := rfl

/-- The order of a tag put in a state, written out stamp part by stamp part. -/
theorem putOrder_eq (tag : Tag) (st : OrderState) (flags : FlagSet) (s : State) : putOrder tag st flags s = { s with
    tru := { s.tru with transit := s.tru.transit.map (fun x =>
      if x.tag = tag then
        match x.stamp with
        | none => x
        | some o => { x with stamp := some { o with state := st }, flags := x.flags ||| flags }
      else x) } } := by
  refine congrArg (fun l => ({ s with tru := { s.tru with transit := l } } : State)) (List.map_congr_left fun x _ => ?_)
  by_cases htag : x.tag = tag
  · rw [if_pos htag]
    cases hstamp : x.stamp with
    | none => rw [if_neg fun h => nomatch h.2]
    | some o => rw [if_pos ⟨htag, rfl⟩]; rfl
  · rw [if_neg fun h => htag h.1, if_neg htag]

/-- Settles O24: the frame and both timers in each state of the channel, and what is discarded. -/
theorem headFaults : Obligations.HeadFaults := by
  refine ⟨?_, ?_⟩
  · intro c h cause s hrel hevent hand stc told put
    have hfaulted : (s.stc.get h).state ≠ .fault → exec c s = .next (headFault h cause s) := by
      intro hnofault
      obtain ⟨tag, code, rfl, rfl, htag⟩ | ⟨rfl, rfl, htimer⟩ | ⟨rfl, rfl, htimer⟩ := hevent
      · exact (unlessReset_released hrel _).trans
          (congrArg _ ((if_pos (headCrc_fault tag code).symm).trans (if_pos ⟨hnofault, htag⟩)))
      · exact (unlessReset_released hrel _).trans (congrArg _ (if_pos htimer))
      · exact (unlessReset_released hrel _).trans (congrArg _ (if_pos htimer))
    refine ⟨fun hstate => ?_, fun hstate hattached => ?_, fun hstate hdetached => ?_, fun hstate => ?_⟩
    · have heffect : faultEffect (s.stc.get h) = .returned := by
        unfold faultEffect
        obtain hstate | hstate := hstate <;> rw [hstate]
      refine (hfaulted ?_).trans (congrArg _ ?_)
      · obtain hstate | hstate := hstate <;> rw [hstate] <;> nofun
      · unfold headFault
        simp only [heffect, putOrder_eq]
        rfl
    · have heffect : faultEffect (s.stc.get h) = .failed := by
        rw [faultEffect, hstate]
        exact if_neg (by rw [hattached]; nofun)
      refine (hfaulted (by rw [hstate]; nofun)).trans (congrArg _ ?_)
      unfold headFault
      simp only [heffect, putOrder_eq]
      rfl
    · have heffect : faultEffect (s.stc.get h) = .detached := by
        rw [faultEffect, hstate]
        exact if_pos hdetached
      refine (hfaulted (by rw [hstate]; nofun)).trans (congrArg _ ?_)
      unfold headFault
      simp only [heffect]
      rfl
    · have heffect : faultEffect (s.stc.get h) = .none := by rw [faultEffect, hstate]
      refine (hfaulted (by rw [hstate]; nofun)).trans (congrArg _ ?_)
      unfold headFault
      simp only [heffect]
      rfl
  · intro h tag code crc s
    refine ⟨fun hwrong => ?_, fun hstopped => ?_, fun hstopped => ?_⟩
    · refine unlessReset_unchanged (ite_eq_right_iff.2 fun hcrc => if_neg fun hmeant => ?_)
      obtain hbad | hstate | ⟨hzero, hother⟩ := hwrong
      · exact hbad (hcrc.trans (headCrc_fault tag code))
      · exact hmeant.1 hstate
      · exact hmeant.2.elim hzero hother
    · exact unlessReset_unchanged (if_neg (by rw [hstopped]; nofun))
    · exact unlessReset_unchanged (if_neg (by rw [hstopped]; nofun))

end Sys2Proof.Machine

/-! The arming check with an order waiting, HEAD CLEAR, and what becomes of an order whose entry is dropped (R107, R110,
R117, R120). -/

namespace Sys2Proof.Machine

/-! ### The earliest of the waiting orders (R107) -/

theorem earlierThan_iff (a : Tag) (o : Order) (b : Tag) (w : Order) : earlierThan a o b w = true ↔
    (1 ≤ (w.fire - o.fire).toNat ∧ (w.fire - o.fire).toNat < 2 ^ 31) ∨ (w.fire = o.fire ∧ a.toNat < b.toNat) := by
  have hsame : (w.fire - o.fire).toNat = 0 ↔ w.fire = o.fire := by bv_omega
  simp only [earlierThan, Bool.or_eq_true, Bool.and_eq_true, decide_eq_true_eq, hsame]

theorem earlierThan_asymm {a b : Tag} {o w : Order} (h : earlierThan a o b w = true) : ¬earlierThan b w a o = true := by
  rw [earlierThan_iff] at h ⊢
  bv_omega

/-- The one that is earlier than every other is the earliest. -/
theorem earliest_of_first {l : List (Tag × Order)} {x : Tag × Order} (hx : x ∈ l)
    (hfirst : ∀ y ∈ l, y ≠ x → earlierThan x.1 x.2 y.1 y.2 = true) : earliest l = some x := by
  induction l with
  | nil => exact absurd hx List.not_mem_nil
  | cons z l ih =>
    obtain rfl | hlater := List.mem_cons.1 hx
    · unfold earliest
      split
      · rfl
      · rename_i y hy
        by_cases hyx : y = x
        · rw [hyx, ite_self]
        · exact if_neg (earlierThan_asymm (hfirst y (List.mem_cons_of_mem _ (earliest_mem hy)) hyx))
    · have hrest : earliest l = some x := ih hlater fun y hy => hfirst y (List.mem_cons_of_mem _ hy)
      unfold earliest
      rw [hrest]
      by_cases hzx : z = x
      · simp only [hzx, ite_self]
      · exact if_pos (hfirst z List.mem_cons_self hzx)

/-- What waits for a head (R107). -/
theorem mem_waitingOrders_iff {h : Fin 4} {l : List Entry} {y : Tag × Order} : y ∈ waitingOrders h l ↔
    ∃ e ∈ l, e.stamp = some y.2 ∧ y.2.head = h ∧ y.2.state = .waiting ∧ e.tag = y.1 := by
  refine ⟨fun hy => ?_, fun ⟨e, he, ho, hhead, hwait, htag⟩ => ?_⟩
  · obtain ⟨e, he, hsome⟩ := List.mem_filterMap.1 hy
    obtain ⟨o, ho, rfl⟩ := Option.map_eq_some_iff.1 hsome
    unfold Entry.orderFor at ho
    split at ho
    · exact absurd ho nofun
    · rename_i w hw
      obtain ⟨⟨hhead, hwait⟩, hsame⟩ := Option.ite_none_right_eq_some.1 ho
      obtain rfl := Option.some.inj hsame
      exact ⟨e, he, hw, hhead, hwait, rfl⟩
  · have hfor : e.orderFor h .waiting = some y.2 := by
      unfold Entry.orderFor
      rw [ho]
      exact if_pos ⟨hhead, hwait⟩
    exact List.mem_filterMap.2 ⟨e, he, by rw [hfor, Option.map_some, htag]⟩

/-- The WAITING order that is earlier than every other one of the head is its earliest. -/
theorem earliest_waitingOrders {h : Fin 4} {l : List Entry} {e : Entry} {o : Order} (he : e ∈ l)
    (ho : e.stamp = some o) (hhead : o.head = h) (hwait : o.state = .waiting)
    (hfirst : ∀ x ∈ l, x ≠ e → ∀ w ∈ x.stamp.toList, w.head = h → w.state = .waiting →
      earlierThan e.tag o x.tag w = true) : earliest (waitingOrders h l) = some (e.tag, o) := by
  refine earliest_of_first (mem_waitingOrders_iff.2 ⟨e, he, ho, hhead, hwait, rfl⟩) fun y hy hne => ?_
  obtain ⟨x, hx, hw, hhead', hwait', htag⟩ := mem_waitingOrders_iff.1 hy
  rw [← htag]
  refine hfirst x hx (fun hxe => hne ?_) y.2 (by rw [hw]; exact List.mem_singleton_self _) hhead' hwait'
  subst hxe
  exact Prod.ext htag.symm (Option.some.inj (hw.symm.trans ho))

/-! ### The arming check with an order waiting (R110) -/

/-- ARM sent on a channel (R110, R209). -/
theorem armOrder_eq (h : Fin 4) (tag : Tag) (o : Order) (s : State) : armOrder h tag o s =
    { putOrder tag .arming 0#16 s with
      stc := s.stc.set h { s.stc.get h with
        state := .arming
        tag := some tag
        detached := false
        armTimer := true
        printTimer := false
        sent := (s.stc.get h).sent ++ [armFrame tag o] } } := rfl

theorem armingCheck_idle {h : Fin 4} {s : State} {t : Tag} {o : Order} (hidle : (s.stc.get h).state = .idle)
    (hfirst : earliest (waitingOrders h s.tru.transit) = some (t, o)) : armingCheck h s = armOrder h t o s := by
  unfold armingCheck
  simp only [hidle, hfirst]

theorem armingCheck_armed {h : Fin 4} {s : State} {t t' : Tag} {o o' : Order} (harmed : (s.stc.get h).state = .armed)
    (hfirst : earliest (waitingOrders h s.tru.transit) = some (t, o)) (hhand : orderInHand h s = some (t', o')) :
    armingCheck h s =
      if earlierThan t o t' o' then armOrder h t o (putOrder t' .waiting 0#16 s) else s := by
  unfold armingCheck
  simp only [harmed, hfirst, hhand]

/-- An entry of another tag stays in the list when an order is put in a state. -/
theorem mem_putOrder_other {s : State} {e : Entry} {tag : Tag} (he : e ∈ s.tru.transit) (htag : e.tag ≠ tag)
    (st : OrderState) : e ∈ (putOrder tag st 0#16 s).tru.transit := by
  rw [putOrder_zero]
  exact List.mem_map.2 ⟨e, he, if_neg htag⟩

/-! ### HEAD CLEAR (R117) -/

theorem exec_headClear (tag head : Byte) (s : State) :
    exec (.headClear tag head) s = unlessReset s (receive ⟨tag, .headClear head⟩) := rfl

theorem serveHeadClear_busy {h : Fin 4} {s : State} (hstate : (s.stc.get h).state ≠ .fault) :
    serveHeadClear (some h) s = (s, .refuse .busy) := if_neg hstate

theorem serveHeadClear_fault {h : Fin 4} {s : State} (hstate : (s.stc.get h).state = .fault) :
    serveHeadClear (some h) s = (armingCheck h (setChannel h ((s.stc.get h).release .idle) s), .ok []) := if_pos hstate

theorem armingCheck_inHand (h : Fin 4) (s : State) (t : Telegram) :
    armingCheck h (s.inHand t) = (armingCheck h s).inHand t :=
  (armingCheck_link h).inHand (armingCheck_upstream h s).cml t

theorem serve_headClear {head : Byte} {h : Fin 4} (hplace : placeOf head = some h) (s : State) :
    serve (.headClear head) s = serveHeadClear (some h) s := congrArg (serveHeadClear · s) hplace

/-- Settles O26: HEAD CLEAR by the state of the channel; the arming check with nobody waiting, on a channel that takes
no order, on an IDLE one, and on an ARMED one by which order is earlier. -/
theorem headClearAndArming : Obligations.HeadClearAndArming := by
  constructor
  · intro tag head s hs
    simp only [exec_headClear]
    refine ⟨fun habove => receive_answers hs (congrArg (serveHeadClear · _) (placeOf_above habove)), fun h hhead => ?_⟩
    have hplace := placeOf_of_toNat_eq hhead
    refine ⟨fun hstate => ?_, fun hstate => ?_⟩
    · exact receive_answers hs ((serve_headClear hplace _).trans (serveHeadClear_busy hstate))
    · have hserve := (serve_headClear hplace _).trans (serveHeadClear_fault (s := s.inHand ⟨tag, .headClear head⟩) hstate)
      refine receive_answers hs (hserve.trans ?_)
      exact congrArg (·, Answer.ok []) (armingCheck_inHand h (setChannel h ((s.stc.get h).release .idle) s) _)
  · intro h s hl earlier
    refine ⟨armingCheck_nobody, armingCheck_busy, fun e o he ho hhead hwait hfirst => ?_⟩
    intro digit sent put
    have hearliest : earliest (waitingOrders h s.tru.transit) = some (e.tag, o) :=
      earliest_waitingOrders he ho hhead hwait fun x hx hne w hw hhead' hwait' =>
        (earlierThan_iff e.tag o x.tag w).2 (hfirst x hx hne w hw hhead' hwait')
    refine ⟨fun hidle => ?_, fun e' o' harmed htag he' ho' hhead' harmed' => ?_⟩
    · rw [armingCheck_idle hidle hearliest, armOrder_eq, putOrder_entry_zero hl he ho]
      rfl
    · have hcheck := armingCheck_armed harmed hearliest (orderInHand_of_mem hl he' ho' hhead' htag)
      refine ⟨fun hearlier => ?_, fun hlater => ?_⟩
      · have hne : e.tag ≠ e'.tag := by
          intro hsame
          obtain rfl := List.inj_on_of_nodup_map hl he he' hsame
          obtain rfl := Option.some.inj (ho.symm.trans ho')
          exact absurd (hwait.symm.trans harmed') nofun
        rw [hcheck, if_pos ((earlierThan_iff ..).2 hearlier), armOrder_eq,
          putOrder_entry_zero (ordersDistinct_putOrder hl _ _ _) (mem_putOrder_other he hne .waiting) ho,
          putOrder_entry_zero hl he' ho']
        rfl
      · rw [hcheck, if_neg fun h => hlater ((earlierThan_iff ..).1 h)]

/-! ### Settlement at drop (R120) -/

/-- Settles O28, a case for each state of the order. -/
theorem dropSettlesTheOrder : Obligations.DropSettlesTheOrder := by
  intro e o s
  refine ⟨fun hnone => ?_, fun ho => ⟨fun hstate => ?_, fun reason hstate => ?_, fun hstate => ?_, fun hstate => ?_,
    fun hstate => ?_⟩⟩
  · simp only [settle, hnone]
  · simp only [settle, ho, hstate]
  · simp only [settle, ho, hstate]
  · simp only [settle, ho, hstate]
  · exact settle_firing ho hstate s
  · intro reason told inHand
    rw [settle_misses ho (hstate.imp_right .inl)]
    refine ⟨fun hin => ?_, fun hout => ?_⟩
    · exact congrArg (fun u => (_, _, armingCheck o.head u)) (if_pos hin)
    · exact congrArg (fun u => (_, _, armingCheck o.head u)) (if_neg hout)

end Sys2Proof.Machine

/-! What a head does at an HWM advance: the order in hand fired, the orders at their miss position missed (R112, R118,
R119). -/

namespace Sys2Proof.Machine

/-! ### An order fired and an order missed, written out -/

/-- The transit list with the order of an entry in a state, and flags added to its hide. -/
def Tru.withOrder (u : Tru) (e : Entry) (o : Order) (st : OrderState) (flags : FlagSet) : Tru :=
  { u with transit := u.transit.map (fun x =>
      if x.tag = e.tag then { x with stamp := some { o with state := st }, flags := x.flags ||| flags } else x) }

/-- The order in hand of head h fired (R112). -/
def State.firedOrder (h : Fin 4) (e : Entry) (o : Order) (s : State) : State :=
  { s with
    tru := s.tru.withOrder e o .firing 0#16
    stc := s.stc.set h { s.stc.get h with
      state := .printing
      armTimer := false
      printTimer := true
      sent := (s.stc.get h).sent ++ [headFrame 0x02#8 e.tag []] } }

/-- An order of head h missed at an HWM (R118, R119). -/
def State.missedOrder (h : Fin 4) (hwm : Count) (u : State) (x : Entry × Order) : State :=
  let c := u.stc.get h
  let reason : MissReason := if c.state = .fault then .headFault else .late
  { u with
    tru := u.tru.withOrder x.1 x.2 (.missed reason) 0x0400#16
    rpq := u.rpq.offer u.settings (.stampMiss x.1.tag x.1.lane h reason x.2.state x.2.fire hwm)
    stc := if (c.state = .arming ∨ c.state = .armed) ∧ c.tag = some x.1.tag then
        u.stc.set h { c with state := .idle, tag := none, detached := false, armTimer := false, printTimer := false }
      else u.stc }

section
variable {h : Fin 4} {s : State}

theorem fireOrder_entry (hl : s.ordersDistinct) {e : Entry} {o : Order} (he : e ∈ s.tru.transit)
    (ho : e.stamp = some o) : fireOrder h e.tag s = s.firedOrder h e o := by
  rw [fireOrder, putOrder_entry hl he ho]
  rfl

theorem missOrder_entry (hl : s.ordersDistinct) {x : Entry × Order} (he : x.1 ∈ s.tru.transit)
    (ho : x.1.stamp = some x.2) (hhead : x.2.head = h) :
    missOrder x.1.tag x.1.lane x.2 s = s.missedOrder h s.tcu.hwm x := by
  subst hhead
  unfold missOrder
  simp only [putOrder_entry hl he ho]
  by_cases hin : ((s.stc.get x.2.head).state = .arming ∨ (s.stc.get x.2.head).state = .armed)
      ∧ (s.stc.get x.2.head).tag = some x.1.tag
  · exact (if_pos hin).trans
      (congrArg (fun q => ({ s.missedOrder x.2.head s.tcu.hwm x with stc := q } : State)) (if_pos hin).symm)
  · exact (if_neg hin).trans
      (congrArg (fun q => ({ s.missedOrder x.2.head s.tcu.hwm x with stc := q } : State)) (if_neg hin).symm)

/-- The tags of the transit list are those before, when an order is put in a state. -/
theorem ordersDistinct_withOrder (hl : s.ordersDistinct) (e : Entry) (o : Order) (st : OrderState) (flags : FlagSet) :
    ((s.tru.withOrder e o st flags).transit.map (fun x => x.tag)).Nodup := by
  have htags : (s.tru.withOrder e o st flags).transit.map (fun x => x.tag) = s.tru.transit.map (fun x => x.tag) := by
    rw [Tru.withOrder, List.map_map]
    exact List.map_congr_left fun x _ => apply_ite (fun y : Entry => y.tag) .. |>.trans (ite_self _)
  rw [htags]
  exact hl

theorem mem_withOrder_other {u : Tru} {e x : Entry} (hx : x ∈ u.transit) (htag : x.tag ≠ e.tag) (o : Order)
    (st : OrderState) (flags : FlagSet) : x ∈ (u.withOrder e o st flags).transit :=
  List.mem_map.2 ⟨x, hx, if_neg htag⟩

/-! ### The misses of one advance (R118) -/

/-- The orders of head h that an advance misses, with their entries in ascending tag order. -/
structure MissedAt (h : Fin 4) (hwm : Count) (l : List Entry) (missed : List (Entry × Order)) : Prop where
  mem : ∀ x, x ∈ missed ↔ x.1 ∈ l ∧ x.1.stamp = some x.2 ∧ x.2.misses h hwm
  ascending : missed.Pairwise (fun x y => x.1.tag.toNat < y.1.tag.toNat)

/-- The misses due are in strictly ascending tag order, where no tag is held twice. -/
theorem missesDue_ascending (hl : s.ordersDistinct) :
    (missesDue h s).Pairwise (fun x y => x.1.toNat < y.1.toNat) := by
  have hdistinct : (missesDue h s).Pairwise (fun x y => x.1 ≠ y.1) := by
    refine ((sortBy_perm _ _).pairwise_iff fun hne => hne.symm).2 ?_
    refine List.Pairwise.filterMap _ (fun e e' hne x hx y hy => ?_) (List.pairwise_map.1 hl)
    have htag (e : Entry) (x : Tag × Fin 4 × Order) (hx : (match e.stamp with
        | none => none
        | some o => if o.head = h ∧ o.missDue s.tcu.hwm = true then some (e.tag, e.lane, o) else none) = some x) :
        x.1 = e.tag := by
      split at hx
      · exact absurd hx nofun
      · obtain ⟨-, ⟨⟩⟩ := Option.ite_none_right_eq_some.1 hx
        rfl
    rw [htag e x hx, htag e' y hy]
    exact hne
  refine ((sortBy_sorted _ _).and hdistinct).imp fun {x y} hxy => ?_
  exact Nat.lt_of_le_of_ne hxy.1 fun hsame => hxy.2 (BitVec.eq_of_toNat_eq hsame)

theorem missesDue_eq (hl : s.ordersDistinct) {missed : List (Entry × Order)}
    (hmissed : MissedAt h s.tcu.hwm s.tru.transit missed) :
    missesDue h s = missed.map (fun x => (x.1.tag, x.1.lane, x.2)) := by
  have : Std.Irrefl (fun x y : Tag × Fin 4 × Order => x.1.toNat < y.1.toNat) := ⟨fun _ => Nat.lt_irrefl _⟩
  have : Std.Antisymm (fun x y : Tag × Fin 4 × Order => x.1.toNat < y.1.toNat) :=
    ⟨fun _ _ hxy hyx => absurd hyx (Nat.lt_asymm hxy)⟩
  refine (missesDue_ascending hl).eq_of_mem_iff (List.pairwise_map.2 hmissed.ascending) fun y => ?_
  rw [mem_missesDue_iff, List.mem_map]
  constructor
  · rintro ⟨e, he, ho, hmiss, htag, hlane⟩
    exact ⟨(e, y.2.2), (hmissed.mem _).2 ⟨he, ho, hmiss⟩, by rw [← htag, ← hlane]⟩
  · rintro ⟨x, hx, rfl⟩
    obtain ⟨he, ho, hmiss⟩ := (hmissed.mem x).1 hx
    exact ⟨x.1, he, ho, hmiss, rfl, rfl⟩

/-- One miss after another, each written out: a miss leaves the other entries and the HWM as they are. -/
theorem foldl_missOrder (hwm : Count) (missed : List (Entry × Order)) (hl : s.ordersDistinct) (hhwm : s.tcu.hwm = hwm)
    (hmem : ∀ x ∈ missed, x.1 ∈ s.tru.transit ∧ x.1.stamp = some x.2 ∧ x.2.head = h)
    (hasc : missed.Pairwise (fun x y => x.1.tag.toNat < y.1.tag.toNat)) :
    missed.foldl (fun s x => missOrder x.1.tag x.1.lane x.2 s) s = missed.foldl (State.missedOrder h hwm) s := by
  induction missed generalizing s with
  | nil => rfl
  | cons x rest ih =>
    obtain ⟨he, ho, hhead⟩ := hmem x List.mem_cons_self
    obtain ⟨hbefore, hrest⟩ := List.pairwise_cons.1 hasc
    rw [List.foldl_cons, List.foldl_cons, missOrder_entry hl he ho hhead, hhwm]
    refine ih (ordersDistinct_withOrder hl x.1 x.2 _ _) hhwm (fun y hy => ?_) hrest
    obtain ⟨he', ho', hhead'⟩ := hmem y (List.mem_cons_of_mem x hy)
    have hne : y.1.tag ≠ x.1.tag := fun hsame => (hbefore y hy).ne' (congrArg BitVec.toNat hsame)
    exact ⟨mem_withOrder_other he' hne _ _ _, ho', hhead'⟩

/-! ### The advance of a head (R112, R118) -/

/-- The order of an entry is the ARMED one in hand of head h, at its fire position (R112). -/
def State.firing (h : Fin 4) (e : Entry) (o : Order) (s : State) : Prop :=
  (s.stc.get h).state = .armed ∧ (s.stc.get h).tag = some e.tag ∧ o.head = h ∧ o.fire = s.tcu.hwm

/-- What the fires of head h make of a state: the ARMED order in hand at its fire position is fired, if there is one. -/
def State.firesTo (h : Fin 4) (s fired : State) : Prop :=
  (∃ e ∈ s.tru.transit, ∃ o, e.stamp = some o ∧ o.state = .armed ∧ s.firing h e o ∧ fired = s.firedOrder h e o)
    ∨ ((∀ e ∈ s.tru.transit, ∀ o, e.stamp = some o → ¬s.firing h e o) ∧ fired = s)

theorem fireIfDue_eq (hl : s.ordersDistinct) {fired : State} (hfires : s.firesTo h fired) : fireIfDue h s = fired := by
  obtain ⟨e, he, o, ho, -, ⟨harmed, htag, hhead, hfire⟩, rfl⟩ | ⟨hnone, rfl⟩ := hfires
  · rw [fireIfDue, fireDue_of_mem hl he ho hhead htag harmed hfire]
    exact fireOrder_entry hl he ho
  · have hdue : fireDue h fired = none := by
      refine Option.eq_none_iff_forall_not_mem.2 fun t ht => ?_
      obtain ⟨harmed, htag, e, he, o, rfl, ho, hhead, hfire⟩ := fireDue_some ht
      exact hnone e he o ho ⟨harmed, htag, hhead, hfire⟩
    rw [fireIfDue, hdue]

/-- A fire misses nothing and takes nothing that is missed: the order fired was ARMED. -/
theorem MissedAt.fired {missed : List (Entry × Order)} (hl : s.ordersDistinct) {fired : State}
    (hfires : s.firesTo h fired) (hmissed : MissedAt h s.tcu.hwm s.tru.transit missed) :
    MissedAt h fired.tcu.hwm fired.tru.transit missed := by
  obtain ⟨e, he, o, ho, harmed, -, rfl⟩ | ⟨-, rfl⟩ := hfires
  · refine ⟨fun x => (hmissed.mem x).trans ⟨fun ⟨hx, hw, hmiss⟩ => ⟨?_, hw, hmiss⟩, fun ⟨hx, hw, hmiss⟩ => ?_⟩,
      hmissed.ascending⟩
    · refine mem_withOrder_other hx (fun hsame => ?_) _ _ _
      rw [List.inj_on_of_nodup_map hl hx he hsame, ho] at hw
      rw [← Option.some.inj hw] at hmiss
      obtain ⟨-, hstate, -⟩ := hmiss
      rw [harmed] at hstate
      exact hstate.elim nofun nofun
    · obtain ⟨y, hy, hyx⟩ := List.mem_map.1 hx
      by_cases htag : y.tag = e.tag
      · rw [if_pos htag] at hyx
        rw [← hyx] at hw
        rw [← Option.some.inj hw] at hmiss
        obtain ⟨-, hstate, -⟩ := hmiss
        exact hstate.elim nofun nofun
      · rw [if_neg htag] at hyx
        exact ⟨hyx ▸ hy, hw, hmiss⟩
  · exact hmissed

theorem firesTo_distinct (hl : s.ordersDistinct) {fired : State} (hfires : s.firesTo h fired) :
    fired.ordersDistinct ∧ fired.tcu.hwm = s.tcu.hwm := by
  obtain ⟨e, he, o, ho, harmed, -, rfl⟩ | ⟨-, rfl⟩ := hfires
  · exact ⟨ordersDistinct_withOrder hl e o .firing 0#16, rfl⟩
  · exact ⟨hl, rfl⟩

/-- A head fires what is at its fire position, then misses what is at its miss position, and after the misses it makes
the arming check once (R112, R118). -/
theorem stampAdvance_eq (hl : s.ordersDistinct) {fired : State} {missed : List (Entry × Order)}
    (hfires : s.firesTo h fired) (hmissed : MissedAt h s.tcu.hwm s.tru.transit missed) :
    stampAdvance h s =
      if missed = [] then fired else armingCheck h (missed.foldl (State.missedOrder h s.tcu.hwm) fired) := by
  obtain ⟨hl', hhwm⟩ := firesTo_distinct hl hfires
  have hfired := MissedAt.fired hl hfires hmissed
  have hfold := foldl_missOrder (h := h) s.tcu.hwm missed hl' hhwm
    (fun x hx => by
      obtain ⟨he, ho, hhead, -⟩ := (hfired.mem x).1 hx
      exact ⟨he, ho, hhead⟩)
    hfired.ascending
  simp only [stampAdvance]
  rw [fireIfDue_eq hl hfires, missesDue_eq hl' hfired]
  cases missed with
  | nil => rfl
  | cons x rest =>
    rw [if_neg (List.cons_ne_nil x rest), ← hfold]
    show armingCheck h (((x :: rest).map _).foldl _ fired) = _
    rw [List.foldl_map]

end

/-! ### The advance at which one order is due, and nothing else -/

/-- Nothing is due at the next position but what is due of the order of one entry. -/
structure State.onlyOrder (e : Entry) (o : Order) (s : State) : Prop where
  distinct : s.ordersDistinct
  mem : e ∈ s.tru.transit
  stamp : e.stamp = some o
  noLine : ∀ g ∈ s.tcu.grid.toList, s.mdc.mode.scans = true → g.nextPos ≠ s.tcu.hwm
  noDrop : ∀ x ∈ s.tru.transit, reached s.tcu.hwm x.dropPos = false
  noOther : ∀ x ∈ s.tru.transit, x ≠ e → ∀ w ∈ x.stamp.toList, w.fire ≠ s.tcu.hwm ∧ w.missPos ≠ s.tcu.hwm

section
variable {e : Entry} {o : Order} {s : State}

/-- An order at its fire or its miss position is the one. -/
theorem State.onlyOrder.eq (hs : s.onlyOrder e o) {x : Entry} {w : Order} (hx : x ∈ s.tru.transit)
    (hw : x.stamp = some w) (hat : w.fire = s.tcu.hwm ∨ w.missPos = s.tcu.hwm) : x = e ∧ w = o := by
  have hxe : x = e := by
    refine Classical.byContradiction fun hne => ?_
    obtain ⟨hfire, hmiss⟩ := hs.noOther x hx hne w (by rw [hw]; exact List.mem_singleton_self w)
    exact hat.elim hfire hmiss
  subst hxe
  exact ⟨rfl, Option.some.inj (hw.symm.trans hs.stamp)⟩

theorem State.onlyOrder.takeDue (hs : s.onlyOrder e o)
    (hat : s.firing o.head e o ∨ o.misses o.head s.tcu.hwm) : takeDue s = stampAdvance o.head s := by
  refine takeDue_stamp (lineDue_none hs.noLine) (fun h => ?_) (dropDue_none hs.noDrop)
  by_cases hh : h = o.head
  · subst hh
    rw [decide_eq_true rfl]
    refine stampDue_of_mem hs.distinct hs.mem hs.stamp rfl ?_
    obtain ⟨harmed, htag, -, hfire⟩ | ⟨-, hstate, hmiss⟩ := hat
    · exact .inl ⟨harmed, htag, hfire⟩
    · exact .inr ⟨hstate, hmiss⟩
  · rw [decide_eq_false hh]
    refine Bool.eq_false_of_not_eq_true fun hdue => ?_
    obtain ⟨x, hx, w, hw, hhead, hdue⟩ := stampDue_reached hdue
    obtain ⟨-, rfl⟩ := hs.eq hx hw (hdue.imp (fun h => h.2.2) (fun h => h.2))
    exact hh hhead.symm

theorem State.onlyOrder.fires (hs : s.onlyOrder e o) (hfiring : s.firing o.head e o) (harmed : o.state = .armed)
    (hmiss : o.missPos ≠ s.tcu.hwm) : Machine.takeDue s = s.firedOrder o.head e o := by
  have hmissed : MissedAt o.head s.tcu.hwm s.tru.transit [] := by
    refine ⟨fun x => ⟨fun hx => absurd hx List.not_mem_nil, fun ⟨hx, hw, _, _, hat⟩ => ?_⟩, List.Pairwise.nil⟩
    obtain ⟨-, hwo⟩ := hs.eq hx hw (.inr hat)
    exact absurd (hwo ▸ hat) hmiss
  rw [hs.takeDue (.inl hfiring)]
  exact stampAdvance_eq hs.distinct (.inl ⟨e, hs.mem, o, hs.stamp, harmed, hfiring, rfl⟩) hmissed

theorem State.onlyOrder.misses (hs : s.onlyOrder e o) (hmiss : o.misses o.head s.tcu.hwm)
    (hfire : o.fire ≠ s.tcu.hwm) :
    Machine.takeDue s = armingCheck o.head (s.missedOrder o.head s.tcu.hwm (e, o)) := by
  have hfires : s.firesTo o.head s := by
    refine .inr ⟨fun x hx w hw hfiring => ?_, rfl⟩
    obtain ⟨-, -, -, hat⟩ := hfiring
    obtain ⟨-, hwo⟩ := hs.eq hx hw (.inl hat)
    exact hfire (hwo ▸ hat)
  have hmissed : MissedAt o.head s.tcu.hwm s.tru.transit [(e, o)] := by
    refine ⟨fun x => ⟨fun hx => ?_, fun ⟨hx, hw, _, _, hat⟩ => ?_⟩, List.pairwise_singleton _ _⟩
    · rw [List.mem_singleton.1 hx]
      exact ⟨hs.mem, hs.stamp, hmiss⟩
    · obtain ⟨hxe, hwo⟩ := hs.eq hx hw (.inr hat)
      exact List.mem_singleton.2 (Prod.ext hxe hwo)
  rw [hs.takeDue (.inr hmiss)]
  exact stampAdvance_eq hs.distinct hfires hmissed

end

/-- Settles O27: the one order due fires or is missed; and what a head does at any advance. -/
theorem firePositionFiresAndMissPositionMisses : Obligations.FirePositionFiresAndMissPositionMisses := by
  constructor
  · intro a b e o s hrel hturn hdepth hline hl he ho hdrop hother moved put
    have honly : (s.advanced a b).onlyOrder e o := ⟨hl, he, ho, hline, hdrop, hother⟩
    have hexec := exec_encoderStep_advances hrel hturn (depth_zero hdepth)
    refine ⟨fun hfire hmiss harmed hchannel htag => ?_, fun hmiss hfire hstate => ?_⟩
    · exact hexec.trans (congrArg _ (honly.fires ⟨hchannel, htag, rfl, hfire⟩ harmed hmiss))
    · intro c reason missed freed inHand
      have hmisses := hexec.trans (congrArg _ (honly.misses ⟨rfl, hstate, hmiss⟩ hfire))
      have hout (hnot : ¬inHand) : (s.advanced a b).missedOrder o.head (s.tcu.hwm + 1) (e, o) = missed :=
        congrArg (fun q => ({ missed with stc := q } : State)) (if_neg hnot)
      refine ⟨fun hin => hmisses.trans (congrArg (fun u => Host.Outcome.next (armingCheck o.head u)) ?_), fun hnot => ?_,
        fun hbusy => ?_⟩
      · exact congrArg (fun q => ({ missed with stc := q } : State)) (if_pos hin)
      · exact hmisses.trans (congrArg (fun u => Host.Outcome.next (armingCheck o.head u)) (hout hnot))
      · have hnot : ¬inHand := fun hin => by
          obtain ⟨hin | hin, -⟩ := hin <;> rw [hin] at hbusy <;> exact hbusy.elim nofun nofun
        refine hmisses.trans (congrArg _ ((congrArg _ (hout hnot)).trans (armingCheck_busy (.inr hbusy))))
  · intro h s hl put firing fire missing miss fired missed hfires hmem hasc
    exact stampAdvance_eq hl hfires ⟨hmem, hasc⟩

end Sys2Proof.Machine

/-! The drop of an entry, the drops of one advance, and what one advance takes (R131 to R139, R144 to R146, R156). -/

namespace Sys2Proof.Machine

/-! ### The tally of one drop (R144, R146, R156) -/

/-- The pack of a lane with one hide more. -/
def Pack.plus (p : Pack) (figure area : Nat) : Pack :=
  { p with hides := p.hides + 1, units := p.units + figure, area := p.area + area }

theorem Pack.meets_iff (p : Pack) (t : Target) : p.meets t = true ↔
    t.mode = .count ∧ t.value ≤ p.hides ∨ t.mode = .area ∧ t.value ≤ p.units := by
  obtain ⟨mode, value⟩ := t
  cases mode <;> simp [Pack.meets]

/-- One more hide in a pack, which closes when it was OPEN and is now at its target (R144, R145). -/
theorem tallyPack_eq (lane : Fin 4) (figure area : Nat) (s : State) :
    tallyPack lane figure area s =
      (let packed := { s with tlu := { s.tlu with
        packs := s.tlu.packs.set lane ((s.tlu.packs.get lane).plus figure area) } }
      if (s.tlu.packs.get lane).state = .opened ∧ ((s.settings.target.get lane).mode = .count
            ∧ (s.settings.target.get lane).value ≤ (s.tlu.packs.get lane).hides + 1
          ∨ (s.settings.target.get lane).mode = .area
            ∧ (s.settings.target.get lane).value ≤ (s.tlu.packs.get lane).units + figure)
      then closePack lane .target packed else packed) := by
  refine if_congr ?_ rfl rfl
  unfold targetMet
  rw [Bool.and_eq_true, decide_eq_true_eq, Pack.meets_iff]
  simp only [Quad.get_set_same]

theorem closePack_lots (lane : Fin 4) (cause : CloseCause) (s : State) :
    (closePack lane cause s).tlu.lots = s.tlu.lots := by
  unfold closePack
  split <;> rfl

theorem tallyPack_lots (lane : Fin 4) (figure area : Nat) (s : State) :
    (tallyPack lane figure area s).tlu.lots = s.tlu.lots := by
  refine (congrArg (fun u : State => u.tlu.lots) (tallyPack_eq lane figure area s)).trans ?_
  dsimp only
  split
  · exact closePack_lots ..
  · rfl

/-- A hide in PACK is tallied in its pack and in each lot of its set (R144, R156). -/
theorem tallyFate_pack (e : Entry) (flags : FlagSet) (s : State) :
    tallyFate .pack e flags s =
      (let checked := tallyPack e.lane e.figure e.area s
      let counted (i : Fin 4) : Lot :=
        let l := s.tlu.lots.get i
        if e.lots.get i then { l with hides := l.hides + 1, units := l.units + e.figure, area := l.area + e.area } else l
      { checked with tlu := { checked.tlu with lots := ⟨counted 0, counted 1, counted 2, counted 3⟩ } }) := by
  simp only [tallyFate, tallyLots, tallyPack_lots]

/-- A flag set holds SMALL and not REF, read off its two bits. -/
theorem small_not_ref_iff (flags : FlagSet) :
    (hasFlag flags .small = true ∧ hasFlag flags .ref = false) ↔ flags &&& 0x4080#16 = 0x0080#16 := by
  have hbits : flags &&& 0x4080#16 = (flags &&& BitVec.twoPow 16 7) ||| (flags &&& BitVec.twoPow 16 14) := by
    rw [← BitVec.and_or_distrib_left]
    rfl
  rw [hbits, BitVec.and_twoPow, BitVec.and_twoPow]
  show flags.getLsbD 7 = true ∧ flags.getLsbD 14 = false ↔ _
  cases flags.getLsbD 7 <;> cases flags.getLsbD 14 <;> decide

/-- SCRAP of a SMALL hide that is not the reference counts it (R146). -/
theorem tallyFate_scrap (e : Entry) (flags : FlagSet) (s : State) : tallyFate .scrap e flags s =
    if flags &&& 0x4080#16 = 0x0080#16 then { s with tlu := { s.tlu with
      packs := s.tlu.packs.set e.lane { s.tlu.packs.get e.lane with
        scrap := min ((s.tlu.packs.get e.lane).scrap + 1) 65535 } } }
    else s := if_congr (small_not_ref_iff flags) rfl rfl

theorem dropReport_eq (e : Entry) (flags : FlagSet) (fate : Fate) (number : Nat) (outcome : StampOutcome) :
    dropReport e flags fate number outcome =
      { tag := e.tag, lane := some e.lane, area := e.area, figure := e.figure, unit := e.unit, fill := e.fill
        length := e.length, width := e.width, pieces := e.pieces, flags := flags, fate := fate
        pack := if fate = .pack then some number else none
        lots := if fate = .pack then e.lots else Quad.const false
        outcome := outcome } := rfl

/-! ### The drop of an entry with no stamp part and no lot -/

theorem releaseLots_none (s : State) : releaseLots (Quad.const false) s = s := by
  have hnone : fours.filter (fun i => (Quad.const false).get i) = [] :=
    filter_fours_none fun i => by
      match i with
      | 0 | 1 | 2 | 3 => rfl
  rw [releaseLots, hnone]
  rfl

/-- Such an entry leaves its fate, its tally and its record (R132). -/
theorem dropEntry_unstamped {e : Entry} {s : State} {fate : Fate} (hnone : e.stamp = none)
    (hlots : e.lots = Quad.const false) (hfate : decideFate e.lane e.flags s = (fate, e.flags)) :
    dropEntry e s = submit (.hide (dropReport e e.flags fate (s.tlu.packs.get e.lane).number .none))
      (if fate = .divert then pulseGate e.lane (tallyFate fate e e.flags s) else tallyFate fate e e.flags s) := by
  have hsettle : settle e s = (.none, e.flags, s) := by simp only [settle, hnone]
  rw [dropEntry_eq]
  simp only [hsettle, hfate, hlots, releaseLots_none]

/-- Its tally in PACK is that of its pack, where the pack does not close. -/
theorem tallyFate_pack_open {e : Entry} {s : State} (flags : FlagSet) (hlots : e.lots = Quad.const false)
    (hopen : ¬((s.tlu.packs.get e.lane).state = .opened ∧ ((s.settings.target.get e.lane).mode = .count
            ∧ (s.settings.target.get e.lane).value ≤ (s.tlu.packs.get e.lane).hides + 1
          ∨ (s.settings.target.get e.lane).mode = .area
            ∧ (s.settings.target.get e.lane).value ≤ (s.tlu.packs.get e.lane).units + e.figure))) :
    tallyFate .pack e flags s = { s with tlu := { s.tlu with
      packs := s.tlu.packs.set e.lane ((s.tlu.packs.get e.lane).plus e.figure e.area) } } := by
  simp only [tallyFate, hlots]
  refine (congrArg (tallyLots _ _ _) ((tallyPack_eq ..).trans (if_neg hopen))).trans ?_
  rfl

/-- What is SCRAP and not the reference is SMALL (R133). -/
theorem decideFate_scrap {lane : Fin 4} {flags flags' : FlagSet} {s : State}
    (hfate : decideFate lane flags s = (.scrap, flags')) : hasFlag flags .small = true ∨ hasFlag flags .ref = true := by
  simp only [decideFate] at hfate
  split at hfate
  · exact absurd (congrArg Prod.fst hfate) nofun
  · split at hfate
    · assumption
    · split at hfate
      · exact absurd (congrArg Prod.fst hfate) nofun
      · split at hfate <;> exact absurd (congrArg Prod.fst hfate) nofun

/-! ### The drops of one advance (R131) -/

/-- The first entry of the list, dropped. -/
def dropFirst (s : State) : State :=
  match s.tru.transit with
  | [] => s
  | e :: rest => dropEntry e { s with tru := { s.tru with transit := rest } }

/-- How many entries of the list's front have their drop position reached. -/
def dropsReached (hwm : Count) (l : List Entry) : Nat := (l.takeWhile (fun e => reached hwm e.dropPos)).length

/-- How many are due is read off the drop positions. -/
theorem dropsReached_eq (hwm : Count) (l : List Entry) :
    dropsReached hwm l = ((l.map (fun e => e.dropPos)).takeWhile (reached hwm)).length := by
  rw [List.takeWhile_map, List.length_map]
  rfl

theorem dropsReached_of_reached {hwm : Count} {e : Entry} (hdue : reached hwm e.dropPos = true) (rest : List Entry) :
    dropsReached hwm (e :: rest) = dropsReached hwm rest + 1 :=
  congrArg List.length (List.takeWhile_cons_of_pos (p := fun x : Entry => reached hwm x.dropPos) hdue)

theorem dropsReached_of_not_reached {hwm : Count} {e : Entry} (hnot : ¬reached hwm e.dropPos = true)
    (rest : List Entry) : dropsReached hwm (e :: rest) = 0 :=
  congrArg List.length (List.takeWhile_cons_of_neg (p := fun x : Entry => reached hwm x.dropPos) hnot)

theorem dropsReached_none {hwm : Count} {l : List Entry} (hnot : ∀ x ∈ l, reached hwm x.dropPos = false) :
    dropsReached hwm l = 0 := by
  cases l with
  | nil => rfl
  | cons x l => exact dropsReached_of_not_reached (by rw [hnot x List.mem_cons_self]; nofun) l

theorem dropEntry_dropPositions (e : Entry) (s : State) :
    (dropEntry e s).tru.transit.map (fun x => x.dropPos) = s.tru.transit.map (fun x => x.dropPos) := by
  have hbare (l : List Entry) : l.map (fun x => x.dropPos) = (l.map Entry.bare).map (fun x => x.dropPos) := by
    rw [List.map_map]
    rfl
  rw [hbare, dropEntry_entries, ← hbare]

/-- Entry after entry of the front is dropped, until one is not due. -/
theorem dropReached_eq (n : Nat) (s : State) (hn : s.tru.transit.length ≤ n) :
    dropReached n s = dropFirst^[dropsReached s.tcu.hwm s.tru.transit] s := by
  induction n generalizing s with
  | zero =>
    rw [List.eq_nil_of_length_eq_zero (Nat.le_zero.1 hn)]
    rfl
  | succ n ih =>
    unfold dropReached
    split
    · rename_i hnil
      rw [hnil]
      rfl
    · rename_i e rest hlist
      split
      · rename_i hdue
        have hpositions := dropEntry_dropPositions e { s with tru := { s.tru with transit := rest } }
        have hlen : (dropEntry e { s with tru := { s.tru with transit := rest } }).tru.transit.length = rest.length := by
          simpa using congrArg List.length hpositions
        have hhwm : (dropEntry e { s with tru := { s.tru with transit := rest } }).tcu.hwm = s.tcu.hwm := by
          rw [(dropEntry_upstream _ _).tcu]
        rw [hlist] at hn
        rw [ih _ (hlen.trans_le (Nat.le_of_succ_le_succ hn)), hhwm, dropsReached_eq, hpositions, ← dropsReached_eq,
          hlist, dropsReached_of_reached hdue, Function.iterate_succ_apply]
        simp only [dropFirst, hlist]
      · rename_i hnot
        rw [hlist, dropsReached_of_not_reached hnot]
        rfl

theorem dropAdvance_eq (s : State) : dropAdvance s = dropFirst^[dropsReached s.tcu.hwm s.tru.transit] s :=
  dropReached_eq _ s (Nat.le_refl _)

/-! ### What one advance takes (R4) -/

theorem dueItems_nodup (s : State) : (dueItems s).Nodup := by
  have hstamps : ((fours.filter (fun h => stampDue h s)).map DueItem.stamp).Nodup :=
    List.Nodup.map (fun _ _ => DueItem.stamp.inj) (List.Nodup.filter _ (by decide))
  unfold dueItems
  refine List.nodup_append'.2 ⟨List.nodup_append'.2 ⟨?_, hstamps, ?_⟩, ?_, ?_⟩
  · split <;> simp
  · split <;> simp
  · split <;> simp
  · cases lineDue s <;> cases dropDue s <;> simp

theorem mem_dueItems (s : State) : (.line ∈ dueItems s ↔ lineDue s = true)
    ∧ (∀ h, .stamp h ∈ dueItems s ↔ stampDue h s = true) ∧ (.drops ∈ dueItems s ↔ dropDue s = true) := by
  refine ⟨?_, fun h => ?_, ?_⟩ <;> simp [dueItems, mem_fours]

/-- The items due are taken one after another in some order; two or more use a free value (log entry 1). -/
theorem takeDue_items (s : State) : ∃ items : List DueItem, items.Perm (dueItems s) ∧
    takeDue s = items.foldl takeItem (if items.length < 2 then s else { s with openChoices := s.openChoices + 1 }) := by
  unfold takeDue
  split
  · rename_i hnone
    exact ⟨[], by rw [hnone], rfl⟩
  · rename_i i hone
    exact ⟨[i], by rw [hone], rfl⟩
  · rename_i hnil hone
    refine ⟨_, arrange_perm (Config.advanceOrder s.openChoices) _, ?_⟩
    have htwo : ¬(arrange (Config.advanceOrder s.openChoices) (dueItems s)).length < 2 := by
      rw [(arrange_perm _ _).length_eq]
      match hitems : dueItems s with
      | [] => exact absurd hitems hnil
      | [i] => exact absurd hitems (hone i)
      | _ :: _ :: l => exact Nat.not_lt.2 (Nat.le_add_left 2 l.length)
    rw [if_neg htwo]

/-- Settles O31: one entry due and nothing else; the drop written out; the drops of one advance; and what any advance
takes. -/
theorem dropAtTheDropPosition : Obligations.DropAtTheDropPosition := by
  refine ⟨?_, ?_, ?_, ?_⟩
  · intro a b e rest s hrel hturn hdepth hline hlist hat hrest hstamps moved report p more target
    have hdrops : dropsReached moved.tcu.hwm moved.tru.transit = 1 := by
      have hdue : reached (s.tcu.hwm + 1) e.dropPos = true := by
        rw [hat]
        exact decide_eq_true (by rw [BitVec.sub_self]; decide)
      show dropsReached (s.tcu.hwm + 1) s.tru.transit = 1
      rw [hlist, dropsReached_of_reached hdue, dropsReached_none hrest]
    have hexec : exec (.encoderStep a b) s = .next (dropEntry e { moved with tru := { s.tru with transit := rest } }) := by
      refine (exec_encoderStep_advances hrel hturn (depth_zero hdepth)).trans (congrArg _ ?_)
      have htake : takeDue moved = dropAdvance moved := by
        refine takeDue_drops (lineDue_none hline) (stampDue_none fun x hx => hstamps x (hlist ▸ hx)) ?_
        refine (dropDue_iff _).2 ⟨e, rest, hlist, ?_⟩
        rw [hat]
        exact decide_eq_true (by rw [BitVec.sub_self]; decide)
      refine htake.trans ((dropAdvance_eq moved).trans ?_)
      rw [hdrops, Function.iterate_one, dropFirst]
      show (match s.tru.transit with
        | [] => moved
        | e :: rest => dropEntry e { moved with tru := { s.tru with transit := rest } }) = _
      rw [hlist]
    have hdrop (fate : Fate) (hnone : e.stamp = none) (hlots : e.lots = Quad.const false)
        (hfate : decideFate e.lane e.flags s = (fate, e.flags)) :=
      dropEntry_unstamped (s := { moved with tru := { s.tru with transit := rest } }) hnone hlots hfate
    refine ⟨hexec, fun hnone hlots hfate hopen => ?_, fun hnone hlots hfate href => ?_, fun hnone hlots hfate => ?_⟩
    · refine hexec.trans (congrArg _ ((hdrop _ hnone hlots hfate).trans ?_))
      rw [if_neg nofun, tallyFate_pack_open (s := { moved with tru := { s.tru with transit := rest } }) _ hlots hopen,
        dropReport_eq, hlots]
      rfl
    · refine hexec.trans (congrArg _ ((hdrop _ hnone hlots hfate).trans ?_))
      rw [if_neg nofun, tallyFate_scrap, if_pos ((small_not_ref_iff _).1 ⟨?_, href⟩), dropReport_eq]
      · rfl
      · exact (decideFate_scrap hfate).resolve_right (by rw [href]; nofun)
    · refine hexec.trans (congrArg _ ((hdrop _ hnone hlots hfate).trans ?_))
      rw [if_pos rfl, dropReport_eq]
      rfl
  · intro e s settled u decided fate flags p more target packed checked counted tallied lower released gated
    have htallied : tallyFate fate e flags u = tallied := by
      clear_value fate flags
      cases fate with
      | pack =>
        exact (tallyFate_pack e flags u).trans (congrArg (fun c : State => { c with tlu := { c.tlu with
          lots := ⟨counted 0, counted 1, counted 2, counted 3⟩ } }) (tallyPack_eq ..))
      | scrap => exact tallyFate_scrap e flags u
      | divert | none => rfl
    refine (dropEntry_eq e s).trans ?_
    show submit _ (if fate = .divert then pulseGate e.lane (releaseLots e.lots (tallyFate fate e flags u))
      else releaseLots e.lots (tallyFate fate e flags u)) = _
    rw [htallied]
    rfl
  · intro s drop
    exact dropAdvance_eq s
  · intro a b s hrel hturn hdepth hl hwm moved take
    obtain ⟨items, hperm, htake⟩ := takeDue_items moved
    obtain ⟨hline, hstamp, hdrop⟩ := mem_dueItems moved
    refine ⟨items, hperm.nodup_iff.2 (dueItems_nodup _), ?_, fun h => ?_, ?_, ?_⟩
    · exact hperm.mem_iff.trans (hline.trans (lineDue_iff moved))
    · refine hperm.mem_iff.trans ((hstamp h).trans ⟨stampDue_reached, fun ⟨e, he, o, ho, hhead, hat⟩ => ?_⟩)
      exact stampDue_of_mem hl he ho hhead hat
    · exact hperm.mem_iff.trans (hdrop.trans (dropDue_iff moved))
    · exact (exec_encoderStep_advances hrel hturn (depth_zero hdepth)).trans (congrArg _ htake)

end Sys2Proof.Machine

/-! A closed hide at the Transit Unit (R104 to R106, R124 to R130, R155, R197): reported at once, or inserted with its
lots and its stamp part in its place of the list. -/

namespace Sys2Proof.Machine

/-! ### Hides that are not inserted (R127, R128) -/

theorem transitTakes_unlaned {m : ClosedHide} (hlane : m.lane = none) (s : State) :
    transitTakes m s = submit (.hide (closeReport m .unlaned)) s := by
  simp only [transitTakes, hlane]

theorem transitTakes_full {m : ClosedHide} {lane : Fin 4} {s : State} {first : Entry} {rest : List Entry}
    (hlane : m.lane = some lane) (hlist : s.tru.transit = first :: rest) (hfull : 24 ≤ s.tru.transit.length) :
    transitTakes m s = submit (.hide (closeReport m .untracked))
      (occurrence .transitFull (.transitFull m.tag lane s.tcu.hwm first.dropPos) s) := by
  simp only [transitTakes, hlane]
  refine (if_pos hfull).trans ?_
  rw [hlist]
  rfl

theorem transitTakes_room {m : ClosedHide} {lane : Fin 4} {s : State} (hlane : m.lane = some lane)
    (hroom : s.tru.transit.length < 24) : transitTakes m s = insertHide m lane s := by
  simp only [transitTakes, hlane]
  exact if_neg (Nat.not_le.2 hroom)

/-! ### Lots (R155) -/

theorem sharesFlag_false_iff (a b : FlagSet) : sharesFlag a b = false ↔ a &&& b = 0#16 := by
  rw [sharesFlag, decide_eq_false_iff_not, Classical.not_not]

/-- A hide joins an OPEN lot that names its lane, has room, and takes its flags (R155). -/
theorem Lot.takes_eq (l : Lot) (lane : Fin 4) (flags : FlagSet) : l.takes lane flags =
    (decide (l.state = .opened) && l.mask.testBit lane.val && decide (l.hides + l.inFlight < 65535)
      && decide (flags &&& 0x4080#16 = 0#16)) := by
  have hfit : (!sharesFlag flags unfitForLot) = decide (flags &&& 0x4080#16 = 0#16) := by
    rw [Bool.eq_iff_iff, decide_eq_true_eq, Bool.not_eq_true', sharesFlag_false_iff]
    rfl
  rw [Lot.takes, hfit, Lot.namesLane, Bool.and_assoc, Bool.and_assoc, Bool.and_comm, Bool.and_assoc,
    Bool.and_assoc, Bool.and_assoc, Bool.and_assoc]

/-- The lot set of a hide, slot by slot. -/
theorem lotSetFor_get (lane : Fin 4) (flags : FlagSet) (s : State) (i : Fin 4) :
    (lotSetFor lane flags s).get i = (s.tlu.lots.get i).takes lane flags := by
  match i with
  | 0 | 1 | 2 | 3 => rfl

theorem raiseInFlight_eq {set : Quad Bool} {s : State} {joins : Fin 4 → Bool} (hset : ∀ i, set.get i = joins i) :
    raiseInFlight set s =
      (let raised (i : Fin 4) : Lot :=
        if joins i then { s.tlu.lots.get i with inFlight := (s.tlu.lots.get i).inFlight + 1 } else s.tlu.lots.get i
      { s with tlu := { s.tlu with lots := ⟨raised 0, raised 1, raised 2, raised 3⟩ } }) := by
  simp only [raiseInFlight, hset]

theorem Quad.eq_of_get {α : Type} {q : Quad α} {f : Fin 4 → α} (h : ∀ i, q.get i = f i) : q = ⟨f 0, f 1, f 2, f 3⟩ := by
  rw [← h 0, ← h 1, ← h 2, ← h 3]
  rfl

/-! ### The stamp part of a new entry (R105, R106) -/

theorem stampHead_fit {c : Settings} {lane : Fin 4} {spot : SpotState} {flags : FlagSet}
    (hfit : spot = .found ∧ flags &&& 0x4181#16 = 0#16 ∧ c.stamping.get lane = true) :
    stampHead c lane spot flags = c.laneHead.get lane := by
  obtain ⟨hfound, hflags, hstamping⟩ := hfit
  exact if_pos ⟨hfound, (sharesFlag_false_iff _ _).2 hflags, hstamping⟩

theorem stampHead_unfit {c : Settings} {lane : Fin 4} {spot : SpotState} {flags : FlagSet}
    (hunfit : ¬(spot = .found ∧ flags &&& 0x4181#16 = 0#16 ∧ c.stamping.get lane = true)) :
    stampHead c lane spot flags = none := by
  refine if_neg fun ⟨hfound, hflags, hstamping⟩ => hunfit ⟨hfound, ?_, hstamping⟩
  exact (sharesFlag_false_iff _ _).1 hflags

theorem newEntry_stamp (m : ClosedHide) (lane : Fin 4) (s : State) : (newEntry m lane s).stamp =
    (stampHead s.settings lane m.spot m.flags).map
      (fun h => newOrder s.settings s.tcu.hwm h m.spotPos m.unit m.figure) := rfl

theorem newEntry_flags (m : ClosedHide) (lane : Fin 4) (s : State) : (newEntry m lane s).flags =
    if (newEntry m lane s).stamp.map (fun o => o.state) = some (OrderState.missed .lateClose) then m.flags ||| 0x0400#16
    else m.flags := rfl

/-- MISSED is set exactly with an order that is created late (R106). -/
theorem newEntry_flags_of_stamp {m : ClosedHide} {lane : Fin 4} {s : State} {o : Order} {late : Prop} [Decidable late]
    (hstamp : (newEntry m lane s).stamp = some o) (hstate : o.state = if late then .missed .lateClose else .waiting) :
    (newEntry m lane s).flags = if late then m.flags ||| 0x0400#16 else m.flags := by
  rw [newEntry_flags, hstamp, Option.map_some, hstate]
  by_cases hlate : late
  · rw [if_pos hlate, if_pos hlate, if_pos rfl]
  · rw [if_neg hlate, if_neg hlate, if_neg nofun]

/-! ### Insertion (R129) -/

theorem insertHide_eq (m : ClosedHide) (lane : Fin 4) (s : State) : insertHide m lane s =
    (let e := newEntry m lane s
    let joined := reportLateClose e (raiseInFlight e.lots s)
    checkNewOrder e (if reached s.tcu.hwm e.dropPos then dropEntry e joined
      else { joined with tru := { joined.tru with transit := placeEntry e joined.tru.transit } })) :=
  (apply_ite (checkNewOrder _) _ _ _).symm

theorem reportLateClose_none {e : Entry} (hstamp : e.stamp = none) (s : State) : reportLateClose e s = s := by
  simp only [reportLateClose, hstamp]

theorem reportLateClose_some {e : Entry} {o : Order} (hstamp : e.stamp = some o) (s : State) :
    reportLateClose e s = { s with
      rpq := if o.state = OrderState.missed .lateClose then
          s.rpq.offer s.settings (.stampMiss e.tag e.lane o.head .lateClose .waiting o.fire s.tcu.hwm)
        else s.rpq } := by
  simp only [reportLateClose, hstamp]
  split <;> rfl

theorem checkNewOrder_none {e : Entry} (hstamp : e.stamp = none) (s : State) : checkNewOrder e s = s := by
  simp only [checkNewOrder, hstamp]

theorem checkNewOrder_some {e : Entry} {o : Order} (hstamp : e.stamp = some o) (s : State) :
    checkNewOrder e s = if o.state = .waiting then armingCheck o.head s else s := by
  simp only [checkNewOrder, hstamp]

/-! ### The order of the list (R124, R130) -/

/-- The order of the list at an HWM: by the distance of the drop position, then by tag. -/
def dropsBefore (hwm : Count) (x y : Entry) : Prop :=
  (x.dropPos - hwm).toNat < (y.dropPos - hwm).toNat
    ∨ ((x.dropPos - hwm).toNat = (y.dropPos - hwm).toNat ∧ x.tag.toNat < y.tag.toNat)

section
variable {hwm : Count} {x y z : Entry}

theorem dropsBefore_trans (hxy : dropsBefore hwm x y) (hyz : dropsBefore hwm y z) : dropsBefore hwm x z := by
  unfold dropsBefore at *
  omega

/-- Within 2³¹ counts beyond the HWM the comparison of two entries is that order. -/
theorem before_iff (hx : (x.dropPos - hwm).toNat < 2 ^ 31) (hy : (y.dropPos - hwm).toNat < 2 ^ 31) :
    x.before y = true ↔ dropsBefore hwm x y := by
  simp only [Entry.before, dropsBefore, Bool.or_eq_true, Bool.and_eq_true, decide_eq_true_eq]
  bv_omega

/-- Of two entries of different tags one stands before the other. -/
theorem dropsBefore_of_not (htag : x.tag ≠ y.tag) (hnot : ¬dropsBefore hwm x y) : dropsBefore hwm y x := by
  have hne : x.tag.toNat ≠ y.tag.toNat := fun h => htag (BitVec.eq_of_toNat_eq h)
  unfold dropsBefore at *
  omega

end

/-- An entry placed in an ordered list leaves it ordered (R124, R130). -/
theorem placeEntry_pairwise {hwm : Count} {e : Entry} {l : List Entry}
    (hdue : ∀ x ∈ e :: l, (x.dropPos - hwm).toNat < 2 ^ 31) (htag : ∀ x ∈ l, x.tag ≠ e.tag)
    (hl : l.Pairwise (dropsBefore hwm)) : (placeEntry e l).Pairwise (dropsBefore hwm) := by
  induction l with
  | nil => exact List.pairwise_singleton _ _
  | cons x rest ih =>
    obtain ⟨hfirst, hrest⟩ := List.pairwise_cons.1 hl
    have he := hdue e List.mem_cons_self
    have hx := hdue x (List.mem_cons_of_mem e List.mem_cons_self)
    unfold placeEntry
    split
    · rename_i hbefore
      have hex := (before_iff he hx).1 hbefore
      refine List.pairwise_cons.2 ⟨fun y hy => ?_, hl⟩
      obtain rfl | hy := List.mem_cons.1 hy
      · exact hex
      · exact dropsBefore_trans hex (hfirst y hy)
    · rename_i hnot
      have hxe : dropsBefore hwm x e :=
        dropsBefore_of_not (htag x List.mem_cons_self).symm fun h => hnot ((before_iff he hx).2 h)
      refine List.pairwise_cons.2 ⟨fun y hy => ?_, ih (fun y hy => ?_) (fun y hy => ?_) hrest⟩
      · obtain rfl | hy := List.mem_cons.1 ((placeEntry_perm e rest).mem_iff.1 hy)
        · exact hxe
        · exact hfirst y hy
      · refine hdue y (List.mem_cons.2 ((List.mem_cons.1 hy).imp_right fun h => List.mem_cons_of_mem x h))
      · exact htag y (List.mem_cons_of_mem x hy)

/-- Settles O29: hides without a lane, hides that find the list full, hides inserted, and the order of the list. -/
theorem closedHidesReachTheTransitUnit : Obligations.ClosedHidesReachTheTransitUnit := by
  refine ⟨fun m lane s => ?_, fun hwm e l => fun hdue htag hl =>
    ⟨placeEntry_pairwise hdue htag hl, placeEntry_perm e l⟩⟩
  intro report
  refine ⟨fun hlane => ?_, fun first rest hlane hlist hfull => ?_, ?_⟩
  · rw [transitTakes_unlaned hlane]
    rfl
  · intro full n disarmed counted
    rw [transitTakes_full hlane hlist hfull]
    refine ⟨fun harmed => ?_, fun hdisarmed => ?_⟩
    · exact congrArg (submit _) (if_pos harmed)
    · exact congrArg (submit _) (if_neg (by rw [Rpq.oneShot, hdisarmed]; nofun))
  · intro e count dropPos joins raised entry
    have hlots : ∀ i, (newEntry m lane s).lots.get i = joins i := fun i =>
      (lotSetFor_get lane m.flags s i).trans (Lot.takes_eq ..)
    have hraise : raiseInFlight (newEntry m lane s).lots s =
        { s with tlu := { s.tlu with lots := ⟨raised 0, raised 1, raised 2, raised 3⟩ } } := raiseInFlight_eq hlots
    have hentry : { newEntry m lane s with stamp := none, flags := m.flags } = entry :=
      congrArg (fun q => ({ entry with lots := q } : Entry)) (Quad.eq_of_get hlots)
    refine ⟨fun hlane hroom hspot hbeyond => ?_, fun hlane hroom => ?_, hentry, ?_⟩
    · have hnone : (newEntry m lane s).stamp = none := by
        rw [newEntry_stamp, stampHead_unfit fun hfit => hspot hfit.1]
        rfl
      have hnew : newEntry m lane s = entry := by
        rw [← hentry]
        refine congrArg₂ (fun st fl => ({ newEntry m lane s with stamp := st, flags := fl } : Entry)) hnone ?_
        refine (newEntry_flags m lane s).trans ?_
        rw [hnone]
        rfl
      rw [transitTakes_room hlane hroom, insertHide_eq]
      simp only [checkNewOrder_none hnone, reportLateClose_none hnone, hraise]
      rw [hnew]
      exact if_neg (by rw [hbeyond]; nofun)
    · intro entered
      have hroomed : transitTakes m s = checkNewOrder entered
          (if reached s.tcu.hwm dropPos then dropEntry entered (reportLateClose entered (raiseInFlight entered.lots s))
          else { reportLateClose entered (raiseInFlight entered.lots s) with
            tru := { (reportLateClose entered (raiseInFlight entered.lots s)).tru with
              transit := placeEntry entered (reportLateClose entered (raiseInFlight entered.lots s)).tru.transit } }) :=
        (transitTakes_room hlane hroom).trans (insertHide_eq m lane s)
      rw [hroomed]
      cases hstamp : entered.stamp with
      | none =>
        simp only [checkNewOrder_none hstamp, reportLateClose_none hstamp]
        rw [hraise]
      | some o =>
        simp only [checkNewOrder_some hstamp, reportLateClose_some hstamp]
        rw [hraise]
        rfl
    · intro fit
      refine ⟨fun hnot => ?_, fun h hfit hhead => ?_⟩
      · have hhead : stampHead s.settings lane m.spot m.flags = none := by
          by_cases hfit : fit
          · exact (stampHead_fit hfit).trans (hnot.resolve_left fun hunfit => hunfit hfit)
          · exact stampHead_unfit hfit
        rw [newEntry_stamp, hhead]
        rfl
      · intro fire slip late
        have hstamp : (newEntry m lane s).stamp = some (newOrder s.settings s.tcu.hwm h m.spotPos m.unit m.figure) := by
          rw [newEntry_stamp, stampHead_fit hfit, hhead]
          rfl
        refine ⟨hstamp.trans ?_, newEntry_flags_of_stamp hstamp rfl⟩
        cases m.unit <;> rfl

end Sys2Proof.Machine

/-! The head links (R109, R203, R209): the bytes of a frame gathered until its kind is complete, and the frames as the
commands they spell. -/

namespace Sys2Proof.Machine

theorem word16_bytes (w : BitVec 16) : word16 (highByte w) (lowByte w) = w := by
  refine (BitVec.extractLsb'_append_extractLsb'_eq_extractLsb' (x := w) (start₁ := 0) (start₂ := 8) rfl).trans ?_
  exact BitVec.extractLsb'_eq_self

/-! ### Bytes gathered -/

section Link
variable {h : Fin 4} {b : Byte} {s : State}

theorem setGathered_get (h : Fin 4) (bytes : List Byte) (s : State) :
    ((setGathered h bytes s).stc.get h).gathered = bytes :=
  congrArg (fun c : Channel => c.gathered) (Quad.get_set_same ..)

theorem setGathered_setGathered (h : Fin 4) (bytes bytes' : List Byte) (s : State) :
    setGathered h bytes' (setGathered h bytes s) = setGathered h bytes' s := by
  simp only [setGathered, setChannel, Quad.get_set_same, Quad.set_set]

theorem setGathered_same {bytes : List Byte} (hsame : (s.stc.get h).gathered = bytes) : setGathered h bytes s = s := by
  subst hsame
  exact congrArg (fun q => ({ s with stc := q } : State)) (Quad.set_get ..)

theorem headByteArrives_start (hidle : (s.stc.get h).gathered = []) :
    headByteArrives h b s = setGathered h (if b = 0x3C#8 then [b] else []) s := by
  simp only [headByteArrives, hidle]
  by_cases hb : b = 0x3C#8
  · rw [if_pos hb]
    exact if_pos hb
  · rw [if_neg hb, setGathered_same hidle]
    exact if_neg hb

/-- A byte that a frame under way takes: the frame is complete, or goes on. -/
theorem headByteArrives_gathering (hsome : (s.stc.get h).gathered ≠ []) :
    headByteArrives h b s =
      if ((s.stc.get h).gathered ++ [b]).length = headFrameSize (((s.stc.get h).gathered ++ [b]).getD 1 0) then
        headFrameArrives h ((s.stc.get h).gathered ++ [b]) (setGathered h [] s)
      else setGathered h ((s.stc.get h).gathered ++ [b]) s := by
  unfold headByteArrives
  split
  · rename_i hnil
    exact absurd hnil hsome
  · rename_i start rest hfront
    rw [hfront]
    cases rest <;> rfl

theorem headByteArrives_more (hsome : (s.stc.get h).gathered ≠ [])
    (hlen : ((s.stc.get h).gathered ++ [b]).length < headFrameSize (((s.stc.get h).gathered ++ [b]).getD 1 0)) :
    headByteArrives h b s = setGathered h ((s.stc.get h).gathered ++ [b]) s :=
  (headByteArrives_gathering hsome).trans (if_neg hlen.ne)

theorem headByteArrives_last (hsome : (s.stc.get h).gathered ≠ [])
    (hlen : ((s.stc.get h).gathered ++ [b]).length = headFrameSize (((s.stc.get h).gathered ++ [b]).getD 1 0)) :
    headByteArrives h b s = headFrameArrives h ((s.stc.get h).gathered ++ [b]) (setGathered h [] s) :=
  (headByteArrives_gathering hsome).trans (if_pos hlen)

theorem exec_headLinkByte (hrel : s.pins.resetAsserted = false) (h : Fin 4) (b : Byte) :
    exec (.headLinkByte h b) s = .next (headByteArrives h b s) := unlessReset_released hrel _

end Link

/-! ### Whole frames -/

theorem execAll_headAsserted {s : State} (hres : s.pins.resetAsserted = true) (h : Fin 4) (bytes : List Byte) :
    execAll (bytes.map (Instr.headLinkByte h)) s = .next s := by
  induction bytes with
  | nil => rfl
  | cons b rest ih =>
    have hstep : exec (.headLinkByte h b) s = .next s := unlessReset_asserted hres _
    simp only [List.map_cons, execAll, hstep, ih]

/-- The bytes of a frame under way, one after another, up to its last: then the frame arrives. -/
theorem execAll_headBytes {h : Fin 4} {s : State} (hrel : s.pins.resetAsserted = false) (bytes : List Byte) (last : Byte)
    {front : List Byte} (hfront : front ≠ [])
    (hsize : (front ++ (bytes ++ [last])).length = headFrameSize ((front ++ (bytes ++ [last])).getD 1 0)) :
    execAll ((bytes ++ [last]).map (Instr.headLinkByte h)) (setGathered h front s)
      = .next (headFrameArrives h (front ++ (bytes ++ [last])) (setGathered h [] s)) := by
  have hpos : 0 < front.length := List.length_pos_of_ne_nil hfront
  have hgathered := setGathered_get h front s
  have hsome : ((setGathered h front s).stc.get h).gathered ≠ [] := by rwa [hgathered]
  induction bytes generalizing front with
  | nil =>
    refine (execAll_singleton _ _).trans ((exec_headLinkByte (s := setGathered h front s) hrel h last).trans ?_)
    have hlast := headByteArrives_last (b := last) hsome (by rw [hgathered]; exact hsize)
    rw [hlast, hgathered, setGathered_setGathered]
    rfl
  | cons b rest ih =>
    have hassoc : front ++ (b :: rest ++ [last]) = front ++ [b] ++ (rest ++ [last]) := by simp
    rw [hassoc] at hsize ⊢
    have hkind : (front ++ [b] ++ (rest ++ [last])).getD 1 0 = (front ++ [b]).getD 1 0 :=
      List.getD_append _ _ _ _ (by rw [List.length_append, List.length_singleton]; omega)
    have hstep : exec (.headLinkByte h b) (setGathered h front s) = .next (setGathered h (front ++ [b]) s) := by
      refine (exec_headLinkByte (s := setGathered h front s) hrel h b).trans (congrArg _ ?_)
      have hmore := headByteArrives_more (b := b) hsome (by
        rw [hgathered, ← hkind, ← hsize]
        simp)
      rw [hmore, hgathered, setGathered_setGathered]
    rw [List.cons_append, List.map_cons]
    simp only [execAll, hstep]
    exact ih (by simp) hsize (by simp) (setGathered_get ..) (by rw [setGathered_get]; simp)

/-- The bytes of a frame that starts with the start byte act as that frame (R203, R209). -/
theorem execAll_headFrame {h : Fin 4} {s : State} (hidle : (s.stc.get h).gathered = []) (kind : Byte)
    (bytes : List Byte) (hsize : bytes.length + 2 = headFrameSize kind) :
    execAll ((0x3C#8 :: kind :: bytes).map (Instr.headLinkByte h)) s =
      unlessReset s (headFrameArrives h (0x3C#8 :: kind :: bytes)) := by
  cases hreset : s.pins.resetAsserted with
  | true => rw [execAll_headAsserted hreset, unlessReset_asserted hreset]
  | false =>
    obtain ⟨front, last, hbytes⟩ := (List.eq_nil_or_concat' (kind :: bytes)).resolve_left (List.cons_ne_nil _ _)
    have hfirst : exec (.headLinkByte h 0x3C#8) s = .next (setGathered h [0x3C#8] s) :=
      (exec_headLinkByte hreset h _).trans (congrArg _ (headByteArrives_start hidle))
    rw [List.map_cons, execAll]
    simp only [hfirst]
    rw [hbytes, execAll_headBytes hreset front last (List.cons_ne_nil _ _), setGathered_same hidle,
      unlessReset_released hreset, List.singleton_append]
    rw [← hbytes]
    exact hsize

/-! ### The frames as commands (R109) -/

section Frames
variable {h : Fin 4} {s : State} {tag : Tag} {code : Byte} {crc : BitVec 16}

/-- A frame of 6 bytes, by its kind. -/
theorem headFrameArrives_six (kind : Byte) : headFrameArrives h ([0x3C#8, kind] ++ bytes16 tag ++ bytes16 crc) s =
    if kind = readyKind ∧ crc = headCrc kind tag [] then acceptReady h tag s
    else if kind = doneKind ∧ crc = headCrc kind tag [] then acceptDone h tag s
    else s := by
  have hframe : headFrameArrives h ([0x3C#8, kind] ++ bytes16 tag ++ bytes16 crc) s =
      (fun t w => if kind = readyKind ∧ w = headCrc kind t [] then acceptReady h t s
        else if kind = doneKind ∧ w = headCrc kind t [] then acceptDone h t s
        else s) (word16 (highByte tag) (lowByte tag)) (word16 (highByte crc) (lowByte crc)) := rfl
  rw [hframe, word16_bytes, word16_bytes]

theorem headFrameArrives_ready : headFrameArrives h ([0x3C#8, 0x81#8] ++ bytes16 tag ++ bytes16 crc) s =
    if crc = headCrc readyKind tag [] then acceptReady h tag s else s := by
  refine (headFrameArrives_six 0x81#8).trans (if_congr (and_iff_right rfl) rfl ?_)
  exact if_neg fun hdone => absurd hdone.1 (by decide)

theorem headFrameArrives_done : headFrameArrives h ([0x3C#8, 0x82#8] ++ bytes16 tag ++ bytes16 crc) s =
    if crc = headCrc doneKind tag [] then acceptDone h tag s else s := by
  refine (headFrameArrives_six 0x82#8).trans ((if_neg fun hready => absurd hready.1 (by decide)).trans ?_)
  exact if_congr (and_iff_right rfl) rfl rfl

theorem headFrameArrives_fault :
    headFrameArrives h ([0x3C#8, 0x83#8] ++ bytes16 tag ++ [code] ++ bytes16 crc) s =
      if crc = headCrc faultKind tag [code] then acceptFault h tag code s else s := by
  have hframe : headFrameArrives h ([0x3C#8, 0x83#8] ++ bytes16 tag ++ [code] ++ bytes16 crc) s =
      (fun t w => if 0x83#8 = faultKind ∧ w = headCrc 0x83#8 t [code] then acceptFault h t code s else s)
        (word16 (highByte tag) (lowByte tag)) (word16 (highByte crc) (lowByte crc)) := rfl
  rw [hframe, word16_bytes, word16_bytes]
  exact if_congr (and_iff_right rfl) rfl rfl

theorem headFrameArrives_unknown {kind t1 t0 c1 c0 : Byte} (hready : kind ≠ 0x81#8) (hdone : kind ≠ 0x82#8) :
    headFrameArrives h [0x3C#8, kind, t1, t0, c1, c0] s = s :=
  (if_neg fun hgood => hready hgood.1).trans (if_neg fun hgood => hdone hgood.1)

theorem exec_readyFrame : exec (.ready h tag crc) s =
    unlessReset s (fun u => if crc = headCrc readyKind tag [] then acceptReady h tag u else u) := rfl

theorem exec_doneFrame : exec (.done h tag crc) s =
    unlessReset s (fun u => if crc = headCrc doneKind tag [] then acceptDone h tag u else u) := rfl

theorem exec_faultFrame : exec (.faultFrame h tag code crc) s =
    unlessReset s (fun u => if crc = headCrc faultKind tag [code] then acceptFault h tag code u else u) := rfl

end Frames

/-- Settles O25: one byte, the byte gap, and the bytes of a whole frame by its kind. -/
theorem headLinkGathersFrames : Obligations.HeadLinkGathersFrames := by
  intro h s gather arrive
  refine ⟨fun hrel => ⟨fun b hidle => ?_, fun b frame hsome hframe hlen => ?_, unlessReset_released hrel _⟩,
    fun hidle tag code crc => ⟨?_, ?_, ?_, fun kind hkind t1 t0 c1 c0 => ?_⟩⟩
  · exact (exec_headLinkByte hrel h b).trans (congrArg _ (headByteArrives_start hidle))
  · subst hframe
    exact (exec_headLinkByte hrel h b).trans (congrArg _ (headByteArrives_more hsome hlen))
  · refine (execAll_headFrame hidle 0x81#8 (bytes16 tag ++ bytes16 crc) rfl).trans ?_
    rw [exec_readyFrame]
    exact congrArg (unlessReset s) (funext fun _ => headFrameArrives_ready)
  · refine (execAll_headFrame hidle 0x82#8 (bytes16 tag ++ bytes16 crc) rfl).trans ?_
    rw [exec_doneFrame]
    exact congrArg (unlessReset s) (funext fun _ => headFrameArrives_done)
  · refine (execAll_headFrame hidle 0x83#8 (bytes16 tag ++ [code] ++ bytes16 crc) rfl).trans ?_
    rw [exec_faultFrame]
    exact congrArg (unlessReset s) (funext fun _ => headFrameArrives_fault)
  · have hne (k : Byte) (hk : k ∈ [0x81#8, 0x82#8, 0x83#8]) : kind ≠ k := fun hsame => hkind (hsame ▸ hk)
    refine (execAll_headFrame hidle kind [t1, t0, c1, c0] (if_neg (hne _ (by decide))).symm).trans ?_
    exact unlessReset_unchanged (headFrameArrives_unknown (hne _ (by decide)) (hne _ (by decide)))

end Sys2Proof.Machine

/-! The host line (R180 to R186, R205): which request a telegram makes, the bytes gathered into a telegram, and the two
places of the receive buffer. -/

namespace Sys2Proof.Machine

/-! ### Fields of two and four bytes -/

theorem word32_bytes (w : BitVec 32) :
    word32 (w.extractLsb' 24 8) (w.extractLsb' 16 8) (w.extractLsb' 8 8) (w.extractLsb' 0 8) = w := by
  simp only [word32]
  rw [BitVec.extractLsb'_append_extractLsb'_eq_extractLsb' (x := w) (start₁ := 16) (start₂ := 24) rfl,
    BitVec.extractLsb'_append_extractLsb'_eq_extractLsb' (x := w) (start₁ := 8) (start₂ := 16) rfl,
    BitVec.extractLsb'_append_extractLsb'_eq_extractLsb' (x := w) (start₁ := 0) (start₂ := 8) rfl]
  exact BitVec.extractLsb'_eq_self

theorem words16_flatMap (l : List (BitVec 16)) : words16 (l.flatMap bytes16) = l := by
  induction l with
  | nil => rfl
  | cons w rest ih =>
    show word16 (highByte w) (lowByte w) :: words16 (rest.flatMap bytes16) = _
    rw [word16_bytes, ih]

theorem flatMap_bytes16_length (l : List (BitVec 16)) : (l.flatMap bytes16).length = 2 * l.length := by
  induction l with
  | nil => rfl
  | cons w rest ih =>
    rw [List.flatMap_cons, List.length_append, ih, List.length_cons, Nat.mul_succ, Nat.add_comm]
    rfl

/-! ### The request a telegram makes (R186, R205) -/

/-- The payload of WIDTHS LOAD spells its start and its widths, when there are 1 to 60 of them; else no request. -/
theorem parseRequest_widthsLoad (first : BitVec 16) (widths : List (BitVec 16)) (hcount : widths.length < 256) :
    parseRequest 0x04#8 (bytes16 first ++ BitVec.ofNat 8 widths.length :: widths.flatMap bytes16) =
      if 1 ≤ widths.length ∧ widths.length ≤ 60 then .widthsLoad first widths else .badFormat 0x04#8 := by
  have hparse : parseRequest 0x04#8 (bytes16 first ++ BitVec.ofNat 8 widths.length :: widths.flatMap bytes16) =
      if 1 ≤ (BitVec.ofNat 8 widths.length).toNat ∧ (BitVec.ofNat 8 widths.length).toNat ≤ 60
          ∧ (widths.flatMap bytes16).length = 2 * (BitVec.ofNat 8 widths.length).toNat then
        .widthsLoad (word16 (highByte first) (lowByte first)) (words16 (widths.flatMap bytes16))
      else .badFormat 0x04#8 := rfl
  have hn : (BitVec.ofNat 8 widths.length).toNat = widths.length :=
    (BitVec.toNat_ofNat _ _).trans (Nat.mod_eq_of_lt hcount)
  rw [hparse, hn, word16_bytes, words16_flatMap]
  exact if_congr (and_congr_right fun _ => and_iff_left (flatMap_bytes16_length widths)) rfl rfl

/-- A request command is the arrival of its telegram, and its payload fits one (R181, R184). -/
theorem exec_hostTelegram {c : Instr} {kind tag : Byte} {payload : List Byte}
    (hc : hostTelegram c = some (kind, tag, payload)) (hwf : c.wf = true) :
    (∀ s, exec c s = unlessReset s (receive ⟨tag, parseRequest kind payload⟩)) ∧ payload.length ≤ 248 := by
  cases c with
  | requestUnknown t k p =>
    cases hc
    exact ⟨fun _ => rfl, of_decide_eq_true (Bool.and_eq_true_iff.1 hwf).2⟩
  | status | get | maskList | start | pause | resume | stop | clear | fetch | rearm | ticket | packClose | lotClose
  | lotRead | headClear | reset =>
    cases hc
    exact ⟨fun _ => rfl, Nat.le_of_ble_eq_true rfl⟩
  | widthsLoad t first widths =>
    cases hc
    have hcount : 3 + 2 * widths.length ≤ 248 := of_decide_eq_true hwf
    refine ⟨fun s => ?_, ?_⟩
    · rw [parseRequest_widthsLoad first widths (by omega)]
      rfl
    · rw [List.length_append, List.length_cons, flatMap_bytes16_length]
      show 2 + (2 * widths.length + 1) ≤ 248
      omega
  | set t id value =>
    cases hc
    refine ⟨fun s => congrArg (fun v => unlessReset s (receive ⟨tag, .set id v⟩)) (word32_bytes value).symm,
      Nat.le_of_ble_eq_true rfl⟩
  | widthsRead t first count =>
    cases hc
    refine ⟨fun s => congrArg (fun v => unlessReset s (receive ⟨tag, .widthsRead v count⟩)) (word16_bytes first).symm,
      Nat.le_of_ble_eq_true rfl⟩
  | maskAdd t cell =>
    cases hc
    refine ⟨fun s => congrArg (fun v => unlessReset s (receive ⟨tag, .maskAdd v⟩)) (word16_bytes cell).symm,
      Nat.le_of_ble_eq_true rfl⟩
  | maskDrop t cell =>
    cases hc
    refine ⟨fun s => congrArg (fun v => unlessReset s (receive ⟨tag, .maskDrop v⟩)) (word16_bytes cell).symm,
      Nat.le_of_ble_eq_true rfl⟩
  | calib t aRef =>
    cases hc
    refine ⟨fun s => congrArg (fun v => unlessReset s (receive ⟨tag, .calib v⟩)) (word32_bytes aRef).symm,
      Nat.le_of_ble_eq_true rfl⟩
  | packTarget t lane mode value =>
    cases hc
    refine ⟨fun s => congrArg (fun v => unlessReset s (receive ⟨tag, .packTarget lane mode v⟩)) (word32_bytes value).symm,
      Nat.le_of_ble_eq_true rfl⟩
  | lotOpen t slot number mask =>
    cases hc
    refine ⟨fun s => congrArg (fun v => unlessReset s (receive ⟨tag, .lotOpen slot v mask⟩)) (word32_bytes number).symm,
      Nat.le_of_ble_eq_true rfl⟩
  | _ => exact absurd hc nofun

/-! ### Requests that do not fit (R186, R205) -/

section Unfit
variable {kind : Byte} {payload : List Byte}

theorem parseRequest_unknown (hkind : kind = 0#8 ∨ 0x18 < kind.toNat) : parseRequest kind payload = .unknown kind := by
  have hout : kind.toNat = 0 ∨ 24 < kind.toNat := hkind.imp_left fun h => congrArg BitVec.toNat h
  unfold parseRequest
  split
  iterate 24 (exact absurd hout (by omega))
  rfl

theorem whenEmpty_unfit (hlen : payload.length ≠ 0) (r : Request) :
    parseRequest.whenEmpty kind payload r = .badFormat kind := by
  unfold parseRequest.whenEmpty
  split
  · exact absurd rfl hlen
  · rfl

theorem whenOne_unfit (hlen : payload.length ≠ 1) (f : Byte → Request) :
    parseRequest.whenOne kind payload f = .badFormat kind := by
  unfold parseRequest.whenOne
  split
  · exact absurd rfl hlen
  · rfl

theorem whenWord_unfit (hlen : payload.length ≠ 2) (f : BitVec 16 → Request) :
    parseRequest.whenWord kind payload f = .badFormat kind := by
  unfold parseRequest.whenWord
  split
  · exact absurd rfl hlen
  · rfl

/-- A payload of a length that is not the kind's is no request. -/
theorem parseRequest_unfit {n : Nat} (hn : (kind.toNat, n) ∈ [(0x01, 0), (0x02, 5), (0x03, 1), (0x05, 3), (0x06, 2),
      (0x07, 2), (0x08, 0), (0x09, 0), (0x0A, 0), (0x0B, 0), (0x0C, 0), (0x0D, 0), (0x0E, 4), (0x0F, 1), (0x10, 0),
      (0x11, 1), (0x12, 6), (0x13, 6), (0x14, 1), (0x15, 1), (0x16, 1), (0x17, 1), (0x18, 0)])
    (hlen : payload.length ≠ n) : parseRequest kind payload = .badFormat kind := by
  have hknown : 1 ≤ kind.toNat ∧ kind.toNat ≤ 24 := by
    simp only [List.mem_cons, List.not_mem_nil, or_false, Prod.mk.injEq] at hn
    omega
  unfold parseRequest
  split
  case h_25 => grind
  all_goals
    rename_i hkind
    simp [hkind] at hn
  all_goals subst hn
  any_goals exact whenEmpty_unfit hlen _
  any_goals exact whenOne_unfit hlen _
  any_goals exact whenWord_unfit hlen _
  all_goals
    split
    · exact absurd rfl hlen
    · rfl

/-- A WIDTHS LOAD whose length is not that of the 1 to 60 widths it declares is no request. -/
theorem parseRequest_widthsLoad_unfit (hunfit : payload.length < 3
      ∨ ¬(1 ≤ (payload.getD 2 0#8).toNat ∧ (payload.getD 2 0#8).toNat ≤ 60)
      ∨ payload.length ≠ 3 + 2 * (payload.getD 2 0#8).toNat) :
    parseRequest 0x04#8 payload = .badFormat 0x04#8 := by
  match payload with
  | [] | [_] | [_, _] => rfl
  | a :: b :: n :: rest =>
    refine if_neg fun ⟨hone, hmost, hrest⟩ => ?_
    obtain hshort | hcount | hlen := hunfit
    · exact absurd hshort (by simp)
    · exact hcount ⟨hone, hmost⟩
    · refine hlen ?_
      simp only [List.length_cons, List.getD_cons_succ, List.getD_cons_zero, hrest]
      omega

end Unfit

/-- Settles O44: kinds that name no request, and payloads that fit no request. -/
theorem unfitRequestsAreRefused : Obligations.UnfitRequestsAreRefused := by
  intro tag kind payload start widths s hs
  have hrefused (hparse : parseRequest kind payload = .badFormat kind) :
      receive ⟨tag, parseRequest kind payload⟩ s = s.answers tag (.badFormat kind) (.refuse .format)
      ∧ exec (.requestUnknown tag kind payload) s = .next (s.answers tag (.badFormat kind) (.refuse .format)) := by
    have hreceive : receive ⟨tag, parseRequest kind payload⟩ s = s.answers tag (.badFormat kind) (.refuse .format) := by
      rw [hparse, receive_listening hs]
      rfl
    exact ⟨hreceive, (unlessReset_released hs.1 _).trans (congrArg _ hreceive)⟩
  refine ⟨fun hkind => ?_, fun hcount => ?_, fun hkind hunfit => hrefused ?_,
    fun n hn hlen => hrefused (parseRequest_unfit hn hlen)⟩
  · show unlessReset s (receive ⟨tag, parseRequest kind payload⟩) = _
    rw [parseRequest_unknown hkind]
    exact receive_answers hs rfl
  · have hnot : ¬(1 ≤ widths.length ∧ widths.length ≤ 60) := by
      rintro ⟨hone, hmost⟩
      obtain rfl | hmany := hcount
      · exact absurd hone (by decide)
      · omega
    show unlessReset s (receive ⟨tag, if 1 ≤ widths.length ∧ widths.length ≤ 60 then _ else _⟩) = _
    rw [if_neg hnot]
    exact receive_answers hs rfl
  · subst hkind
    exact parseRequest_widthsLoad_unfit hunfit

/-! ### The receive buffer (R183 to R185) -/

theorem exec_replySent (s : State) : exec .replySent s = unlessReset s replyCompletes := rfl

/-- With the line free and the buffer empty a request is taken at once. -/
theorem receive_free {s : State} (hbuffer : s.cml.buffer = []) (t : Telegram) :
    receive t s = takeRequest { s with cml := { s.cml with buffer := [t] } } := by
  rw [receive, hbuffer]
  exact if_pos (show 0 < 2 by decide)

theorem replyCompletes_sending {s : State} {reply : List Byte} (hreply : s.cml.reply = some reply) :
    replyCompletes s = takeRequest { s with cml := { s.cml with reply := none, buffer := s.cml.buffer.drop 1 } } := by
  simp only [replyCompletes, hreply]

theorem replyCompletes_idle {s : State} (hreply : s.cml.reply = none) : replyCompletes s = s := by
  simp only [replyCompletes, hreply]

/-- Settles O43: one place held, both held, the end of a reply, and no reply under way. -/
theorem receiveBufferHasTwoPlaces : Obligations.ReceiveBufferHasTwoPlaces := by
  intro c kind tag payload reply first s hrel hc hwf second free
  have hexec (u : State) (hu : u.pins.resetAsserted = false) : exec c u = .next (receive second u) :=
    ((exec_hostTelegram hc hwf).1 u).trans (unlessReset_released hu _)
  refine ⟨fun hreply hbuffer => ⟨?_, ?_⟩, fun hfull => ?_, fun hreply hbuffer => ?_, fun hidle => ?_⟩
  · exact (hexec s hrel).trans (congrArg _ (receive_waits second hbuffer hreply))
  · refine (unlessReset_released hrel _).trans (congrArg _ ((replyCompletes_sending hreply).trans ?_))
    rw [hbuffer]
    rfl
  · exact (hexec s hrel).trans (congrArg _ (receive_full second hfull))
  · refine (unlessReset_released hrel _).trans (Eq.trans (congrArg _ ?_) (hexec (free []) hrel).symm)
    rw [replyCompletes_sending hreply, hbuffer]
    exact (receive_free (s := free []) rfl second).symm
  · exact unlessReset_unchanged (replyCompletes_idle hidle)

end Sys2Proof.Machine

/-! The bytes of the host line (R180 to R183): each byte by the state of the receiver, and the bytes of a whole telegram
as its request. -/

namespace Sys2Proof.Machine

/-! ### One byte (R182) -/

/-- The telegram under way ended with a link error (R183). -/
def State.telegramFailed (s : State) : State :=
  { s with cml := { s.cml with receiver := .hunting, linkErrors := min (s.cml.linkErrors + 1) 65535 } }

section Bytes
variable {b : Byte} {stop : Bool} {s : State} {bytes : List Byte}

theorem exec_hostByte (hrel : s.pins.resetAsserted = false) (b : Byte) (stop : Bool) :
    exec (.hostByte b stop) s = .next (hostByteArrives b stop s) := unlessReset_released hrel _

theorem hostByteArrives_hunting (hhunting : s.cml.receiver = .hunting) :
    hostByteArrives b stop s = if stop = true ∧ b = 0xA5#8 then setReceiver (.gathering []) s else s := by
  simp only [hostByteArrives, hhunting]
  rfl

theorem hostByteArrives_framing (hgathering : s.cml.receiver = .gathering bytes) :
    hostByteArrives b false s = s.telegramFailed := by
  simp only [hostByteArrives, hgathering]
  rfl

theorem hostByteArrives_gathering (hgathering : s.cml.receiver = .gathering bytes) :
    hostByteArrives b true s = gatherByte bytes b s := by
  simp only [hostByteArrives, hgathering, if_true]

theorem gatherByte_length : gatherByte [] b s =
    if 2 ≤ b.toNat ∧ b.toNat ≤ 250 then setReceiver (.gathering [b]) s else s.telegramFailed := rfl

theorem gatherByte_more {length : Byte} {rest : List Byte} (hmore : rest.length + 2 < length.toNat + 3) :
    gatherByte (length :: rest) b s = setReceiver (.gathering (length :: rest ++ [b])) s := by
  refine if_neg (Nat.ne_of_lt ?_)
  rwa [List.length_append, List.length_cons, List.length_singleton]

theorem gatherByte_last {length : Byte} {rest : List Byte} (hlast : rest.length + 2 = length.toNat + 3) :
    gatherByte (length :: rest) b s = telegramArrives (length :: rest ++ [b]) (setReceiver .hunting s) := by
  refine if_pos ?_
  rwa [List.length_append, List.length_cons, List.length_singleton]

/-- A complete telegram whose two last bytes are not its CRC is a link error (R182, R183). -/
theorem telegramArrives_wrong {n : Nat} (hlen : bytes.length = n + 2)
    (hcrc : bytes.drop n ≠ bytes16 (crc16 (bytes.take n))) :
    telegramArrives bytes (setReceiver .hunting s) = s.telegramFailed := by
  have hbody : bytes.length - 2 = n := by omega
  simp only [telegramArrives, hbody]
  exact if_neg hcrc

/-- A complete telegram with its CRC is received as its request (R182, R184). -/
theorem telegramArrives_good (length kind tag : Byte) (payload : List Byte) (s : State) :
    telegramArrives (length :: kind :: tag :: payload ++ crcBytes (length :: kind :: tag :: payload)) s =
      receive ⟨tag, parseRequest kind payload⟩ s := by
  have hbody : (length :: kind :: tag :: payload ++ crcBytes (length :: kind :: tag :: payload)).length - 2 =
      (length :: kind :: tag :: payload).length := by
    rw [List.length_append]
    exact Nat.add_sub_cancel _ 2
  simp only [telegramArrives, hbody, List.take_left, List.drop_left, if_true]

end Bytes

theorem byteGapExpires_hunting {s : State} (hhunting : s.cml.receiver = .hunting) : byteGapExpires s = s := by
  simp only [byteGapExpires, hhunting]

theorem byteGapExpires_gathering {s : State} {bytes : List Byte} (hgathering : s.cml.receiver = .gathering bytes) :
    byteGapExpires s = s.telegramFailed := by
  simp only [byteGapExpires, hgathering]
  rfl

/-- Settles O41: each byte, and the byte gap, by the state of the receiver. -/
theorem hostBytesAreGathered : Obligations.HostBytesAreGathered := by
  intro b stop s hrel failed gather
  have hexec := exec_hostByte hrel b
  refine ⟨fun hhunting => ⟨?_, ?_⟩, fun bytes hgathering => ⟨?_, fun hstop => ?_, fun hstop hnil => ?_,
    fun hstop length rest hbytes hmore => ?_, fun hstop length rest hbytes hlast hcrc => ?_⟩⟩
  · exact (hexec stop).trans (congrArg _ (hostByteArrives_hunting hhunting))
  · exact unlessReset_unchanged (byteGapExpires_hunting hhunting)
  · exact (unlessReset_released hrel _).trans (congrArg _ (byteGapExpires_gathering hgathering))
  · subst hstop
    exact (hexec false).trans (congrArg _ (hostByteArrives_framing hgathering))
  · subst hstop hnil
    exact (hexec true).trans (congrArg _ (hostByteArrives_gathering hgathering))
  · subst hstop hbytes
    exact (hexec true).trans (congrArg _ ((hostByteArrives_gathering hgathering).trans (gatherByte_more hmore)))
  · subst hstop hbytes
    have hlen : (length :: rest ++ [b]).length = length.toNat + 1 + 2 := by
      rw [List.length_append, List.length_cons, List.length_singleton, hlast]
    have htake : (length :: rest ++ [b]).take (length.toNat + 1) = (length :: rest).take (length.toNat + 1) :=
      List.take_append_of_le_length (by rw [List.length_cons]; omega)
    refine (hexec true).trans (congrArg _ ((hostByteArrives_gathering hgathering).trans ?_))
    refine (gatherByte_last hlast).trans (telegramArrives_wrong hlen ?_)
    rw [htake]
    exact hcrc

/-! ### Whole telegrams (R181, R184) -/

theorem execAll_hostAsserted {s : State} (hres : s.pins.resetAsserted = true) (bytes : List Byte) :
    execAll (bytes.map (fun b => Instr.hostByte b true)) s = .next s := by
  induction bytes with
  | nil => rfl
  | cons b rest ih =>
    have hstep : exec (.hostByte b true) s = .next s := unlessReset_asserted hres _
    simp only [List.map_cons, execAll, hstep, ih]

/-- The bytes of a telegram under way, one after another, up to its last: then the telegram arrives. -/
theorem execAll_hostBytes {s : State} (hrel : s.pins.resetAsserted = false) (bytes : List Byte) (last length : Byte)
    {rest : List Byte} (hsize : rest.length + bytes.length + 2 = length.toNat + 3) :
    execAll ((bytes ++ [last]).map (fun b => Instr.hostByte b true)) (setReceiver (.gathering (length :: rest)) s) =
      .next (telegramArrives (length :: rest ++ (bytes ++ [last])) (setReceiver .hunting s)) := by
  induction bytes generalizing rest with
  | nil =>
    refine (execAll_singleton _ _).trans ?_
    refine (exec_hostByte (s := setReceiver (.gathering (length :: rest)) s) hrel last true).trans (congrArg _ ?_)
    exact (hostByteArrives_gathering (s := setReceiver (.gathering (length :: rest)) s) rfl).trans (gatherByte_last hsize)
  | cons b bytes ih =>
    have hstep : exec (.hostByte b true) (setReceiver (.gathering (length :: rest)) s) =
        .next (setReceiver (.gathering (length :: (rest ++ [b]))) s) := by
      refine (exec_hostByte (s := setReceiver (.gathering (length :: rest)) s) hrel b true).trans (congrArg _ ?_)
      refine (hostByteArrives_gathering (s := setReceiver (.gathering (length :: rest)) s) rfl).trans
        (gatherByte_more ?_)
      rw [List.length_cons] at hsize
      omega
    rw [List.cons_append, List.map_cons]
    simp only [execAll, hstep]
    rw [ih (rest := rest ++ [b]) (by simp only [List.length_append, List.length_cons, List.length_nil] at hsize ⊢; omega)]
    simp

/-- Settles O42: the start byte, the length, and the bytes after it. -/
theorem telegramBytesMakeTheRequest : Obligations.TelegramBytesMakeTheRequest := by
  intro c kind tag payload s hc hwf hhunting
  obtain ⟨hexec, hpayload⟩ := exec_hostTelegram hc hwf
  rw [hexec]
  cases hreset : s.pins.resetAsserted with
  | true => rw [execAll_hostAsserted hreset, unlessReset_asserted hreset]
  | false =>
    have hlength : (BitVec.ofNat 8 (payload.length + 2)).toNat = payload.length + 2 :=
      (BitVec.toNat_ofNat _ _).trans (Nat.mod_eq_of_lt (by omega))
    have hstart : exec (.hostByte telegramStart true) s = .next (setReceiver (.gathering []) s) :=
      (exec_hostByte hreset _ true).trans (congrArg _ ((hostByteArrives_hunting hhunting).trans (if_pos ⟨rfl, rfl⟩)))
    have hfirst : exec (.hostByte (BitVec.ofNat 8 (payload.length + 2)) true) (setReceiver (.gathering []) s) =
        .next (setReceiver (.gathering [BitVec.ofNat 8 (payload.length + 2)]) s) := by
      refine (exec_hostByte (s := setReceiver (.gathering []) s) hreset _ true).trans (congrArg _ ?_)
      refine (hostByteArrives_gathering (s := setReceiver (.gathering []) s) rfl).trans ?_
      refine gatherByte_length.trans (if_pos ?_)
      rw [hlength]
      omega
    have hsame : setReceiver .hunting s = s := by
      rw [setReceiver, ← hhunting]
    have hbytes : telegramBytes kind tag payload = telegramStart :: BitVec.ofNat 8 (payload.length + 2) ::
        (kind :: tag :: payload ++ [highByte (crc16 (BitVec.ofNat 8 (payload.length + 2) :: kind :: tag :: payload))]
          ++ [lowByte (crc16 (BitVec.ofNat 8 (payload.length + 2) :: kind :: tag :: payload))]) := by
      simp [telegramBytes, crcBytes, bytes16]
    have hwhole (length : Byte) : length :: (kind :: tag :: payload ++ [highByte (crc16 (length :: kind :: tag :: payload))]
        ++ [lowByte (crc16 (length :: kind :: tag :: payload))]) =
        length :: kind :: tag :: payload ++ crcBytes (length :: kind :: tag :: payload) := by
      simp [crcBytes, bytes16]
    rw [hbytes, List.map_cons, List.map_cons]
    simp only [execAll, hstart, hfirst]
    rw [execAll_hostBytes hreset _ _ _ (by rw [hlength]; simp), hsame, List.singleton_append, hwhole,
      telegramArrives_good, unlessReset_released hreset]

end Sys2Proof.Machine

/-! SET (R133, R187, R188, R204, section 11.4). What SET answers is said once for any setting by its condition and its
write; each row of the settings table is then its condition and the range and checks of its write. -/

namespace Sys2Proof.Machine

/-! ### The answers of SET (R187) -/

theorem exec_set (tag id : Byte) (value : BitVec 32) (s : State) :
    exec (.set tag id value) s = unlessReset s (receive ⟨tag, .set id value⟩) := rfl

section
variable {id : Byte} {value : BitVec 32} {x : Setting} {s : State} {c : Settings}

theorem serveSet_unnamed (hid : settingOf id = none) : serveSet id value s = (s, .refuse .notFound) := by
  simp only [serveSet, hid]

theorem serveSet_busy (hid : settingOf id = some x) (hwhen : x.when.met s = false) :
    serveSet id value s = (s, .refuse .busy) := by
  simp only [serveSet, hid, hwhen]
  rfl

theorem serveSet_range (hid : settingOf id = some x) (hwhen : x.when.met s = true)
    (hwritten : x.written value.toNat s.settings = none) : serveSet id value s = (s, .refuse .range) := by
  simp only [serveSet, hid, hwhen, hwritten, if_true]

theorem serveSet_ok (hid : settingOf id = some x) (hwhen : x.when.met s = true)
    (hwritten : x.written value.toNat s.settings = some c) :
    serveSet id value s = (afterWrite x { s with settings := c },
      .ok (id :: bytes32 (BitVec.ofNat 32 (x.value c)) ++ setReport x c s)) := by
  simp only [serveSet, hid, hwhen, hwritten, if_true]

/-- Nothing but the write follows from the SET of a setting of this kind. -/
def Setting.plain (x : Setting) : Bool :=
  match x with
  | .target _ | .gatePresent _ | .attnThreshold => false
  | _ => true

theorem Setting.plain_iff (x : Setting) :
    x.plain = true ↔ (∀ l, x ≠ .target l ∧ x ≠ .gatePresent l) ∧ x ≠ .attnThreshold := by
  cases x <;> simp [Setting.plain]

theorem afterWrite_plain (hx : x.plain = true) (s : State) : afterWrite x s = s := by
  cases x with
  | target | gatePresent | attnThreshold => exact absurd hx nofun
  | _ => rfl

theorem setReport_plain (hx : x.plain = true) (c : Settings) (s : State) : setReport x c s = [] := by
  cases x with
  | target | gatePresent | attnThreshold => exact absurd hx nofun
  | _ => rfl

/-- But under a pack target, the value held is the value written (R189). -/
theorem heldValue (hx : ∀ l, x ≠ .target l) (hwritten : x.written value.toNat s.settings = some c) :
    BitVec.ofNat 32 (x.value c) = value := by
  rw [value_of_written hwritten hx, BitVec.ofNat_toNat, BitVec.setWidth_eq]

end

section
variable {tag id : Byte} {value : BitVec 32} {x : Setting} {s : State} {c : Settings}

theorem exec_set_unnamed (hs : s.listening) (hid : settingOf id = none) :
    exec (.set tag id value) s = .next (s.answers tag (.set id value) (.refuse .notFound)) :=
  receive_answers hs (serveSet_unnamed hid)

theorem exec_set_busy (hs : s.listening) (hid : settingOf id = some x) (hwhen : x.when.met s = false) :
    exec (.set tag id value) s = .next (s.answers tag (.set id value) (.refuse .busy)) :=
  receive_answers hs (serveSet_busy (s := s.inHand _) hid hwhen)

theorem exec_set_range (hs : s.listening) (hid : settingOf id = some x) (hwhen : x.when.met s = true)
    (hwritten : x.written value.toNat s.settings = none) :
    exec (.set tag id value) s = .next (s.answers tag (.set id value) (.refuse .range)) :=
  receive_answers hs (serveSet_range (s := s.inHand _) hid hwhen hwritten)

theorem exec_set_plain (hs : s.listening) (hid : settingOf id = some x) (hx : x.plain = true)
    (hwhen : x.when.met s = true) (hwritten : x.written value.toNat s.settings = some c) :
    exec (.set tag id value) s = .next ({ s with settings := c }.answers tag (.set id value)
      (.ok (id :: bytes32 (BitVec.ofNat 32 (x.value c))))) := by
  refine receive_answers hs ((serveSet_ok (s := s.inHand _) hid hwhen hwritten).trans ?_)
  rw [afterWrite_plain hx, setReport_plain hx, List.append_nil]
  rfl

/-! ### A row of the settings table (section 11.4) -/

/-- SET under a condition, a check and a write: BUSY, RANGE, or the settings as written. -/
def SetRow (tag id : Byte) (value : BitVec 32) (s : State) (free fits : Prop) (c : Settings) : Prop :=
  (¬free → exec (.set tag id value) s = .next (s.answers tag (.set id value) (.refuse .busy)))
    ∧ (free → ¬fits → exec (.set tag id value) s = .next (s.answers tag (.set id value) (.refuse .range)))
    ∧ (free → fits → exec (.set tag id value) s =
        .next ({ s with settings := c }.answers tag (.set id value) (.ok (id :: bytes32 value))))

theorem setRow {free fits : Prop} (hs : s.listening) (hid : settingOf id = some x) (hx : x.plain = true)
    (hfree : x.when.met s = true ↔ free) (hnone : ¬fits → x.written value.toNat s.settings = none)
    (hsome : fits → x.written value.toNat s.settings = some c) : SetRow tag id value s free fits c := by
  refine ⟨fun hbusy => ?_, fun hf hunfit => ?_, fun hf hfit => ?_⟩
  · exact exec_set_busy hs hid (Bool.eq_false_of_not_eq_true fun hmet => hbusy (hfree.1 hmet))
  · exact exec_set_range hs hid (hfree.2 hf) (hnone hunfit)
  · have hheld := heldValue (fun l => (((Setting.plain_iff x).1 hx).1 l).1) (hsome hfit)
    rw [exec_set_plain hs hid hx (hfree.2 hf) (hsome hfit), hheld]

/-- A write that takes a number in a range and makes one check of it. -/
theorem setRow_ranged {free fits : Prop} {lo hi : Nat} {b : Nat → Bool} {f : Nat → Settings} (hs : s.listening)
    (hid : settingOf id = some x) (hx : x.plain = true) (hfree : x.when.met s = true ↔ free)
    (hwritten : x.written value.toNat s.settings =
      (inRange value.toNat lo hi).bind (fun v => checked (b v) (f v)))
    (hfits : fits ↔ lo ≤ value.toNat ∧ value.toNat ≤ hi ∧ b value.toNat = true) :
    SetRow tag id value s free fits (f value.toNat) := by
  refine setRow hs hid hx hfree (fun hunfit => ?_) (fun hfit => ?_)
  · rw [hwritten, inRange]
    by_cases hin : lo ≤ value.toNat ∧ value.toNat ≤ hi
    · rw [if_pos hin, Option.bind_some]
      exact if_neg fun hb => hunfit (hfits.2 ⟨hin.1, hin.2, hb⟩)
    · rw [if_neg hin]
      rfl
  · obtain ⟨hlo, hhi, hb⟩ := hfits.1 hfit
    rw [hwritten, inRange, if_pos ⟨hlo, hhi⟩, Option.bind_some]
    exact if_pos hb

end

/-! ### The conditions (section 11.4) -/

section
variable {s : State}

theorem met_anyState : SetWhen.anyState.met s = true ↔ True := ⟨fun _ => trivial, fun _ => rfl⟩

theorem met_idle : SetWhen.idle.met s = true ↔ s.mdc.mode = .idle := decide_eq_true_iff

theorem met_idleNoHide : SetWhen.idleNoHide.met s = true ↔ s.mdc.mode = .idle ∧ s.htk.table = [] := by
  simp only [SetWhen.met, Bool.and_eq_true, decide_eq_true_eq, List.isEmpty_iff]

theorem forall_fours {p : Fin 4 → Bool} : fours.all p = true ↔ ∀ i, p i = true :=
  ⟨all_fours, fun h => List.all_eq_true.2 fun i _ => h i⟩

theorem met_idleNoTallies : SetWhen.idleNoTallies.met s = true ↔ s.mdc.mode = .idle ∧ s.tru.transit = []
    ∧ ∀ i : Fin 4, (s.tlu.packs.get i).hides = 0 ∧ (s.tlu.lots.get i).hides = 0 ∧ (s.tlu.lots.get i).inFlight = 0 := by
  simp only [SetWhen.met, tallyFree, Bool.and_eq_true, decide_eq_true_eq, List.isEmpty_iff, forall_fours, forall_and,
    and_assoc]

end

/-! ### The codes and checks of the writes (R188, R204) -/

theorem switchOf_eq (v : Nat) : switchOf v = if v ≤ 1 then some (decide (v = 1)) else none := by
  match v with
  | 0 | 1 => rfl
  | n + 2 => exact (if_neg (by omega)).symm

theorem saleUnitOf_eq (v : Nat) : saleUnitOf v =
    if v ≤ 2 then some (if v = 0 then .quarterFoot else if v = 1 then .tenthFoot else .decimetre) else none := by
  match v with
  | 0 | 1 | 2 => rfl
  | n + 3 => exact (if_neg (by omega)).symm

theorem roundingOf_eq (v : Nat) : roundingOf v = if v ≤ 1 then some (if v = 0 then .nearest else .down) else none := by
  match v with
  | 0 | 1 => rfl
  | n + 2 => exact (if_neg (by omega)).symm

theorem laneHeadOf_fits {v : Nat} (hv : v < 4 ∨ v = 255) :
    laneHeadOf v = some (if h : v < 4 then some ⟨v, h⟩ else none) := by
  unfold laneHeadOf
  by_cases hlt : v < 4
  · rw [dif_pos hlt, dif_pos hlt]
  · rw [dif_neg hlt, dif_neg hlt, if_pos (hv.resolve_left hlt)]

theorem laneHeadOf_misfit {v : Nat} (hv : ¬(v < 4 ∨ v = 255)) : laneHeadOf v = none := by
  unfold laneHeadOf
  rw [dif_neg fun h => hv (.inl h), if_neg fun h => hv (.inr h)]

theorem overlaps_false_iff (a b : Window) : a.overlaps b = false ↔ a.last < b.first ∨ b.last < a.first := by
  simp only [Window.overlaps, decide_eq_false_iff_not]
  omega

/-- A window fits its lane when its cells are in order and, enabled, it shares none with another enabled one (R188). -/
theorem windowFits_iff (c : Settings) (n : Fin 4) (w : Window) : windowFits c n w = true ↔ w.first ≤ w.last
    ∧ (w.enabled = true → ∀ j, j ≠ n → (c.window.get j).enabled = true →
      w.last < (c.window.get j).first ∨ (c.window.get j).last < w.first) := by
  simp only [windowFits, Bool.and_eq_true, Bool.or_eq_true, Bool.not_eq_true', decide_eq_true_eq, forall_fours,
    overlaps_false_iff]
  refine and_congr_right fun _ => ⟨fun h hw j hj hj' => ?_, fun h => ?_⟩
  · obtain hoff | hall := h
    · exact absurd (hoff.symm.trans hw) nofun
    · obtain (hsame | hoff) | hapart := hall j
      · exact absurd hsame hj
      · exact absurd (hoff.symm.trans hj') nofun
      · exact hapart
  · by_cases hw : w.enabled = true
    · refine .inr fun j => ?_
      by_cases hj : j = n
      · exact .inl (.inl hj)
      · by_cases hj' : (c.window.get j).enabled = true
        · exact .inr (h hw j hj hj')
        · exact .inl (.inr (Bool.eq_false_of_not_eq_true hj'))
    · exact .inl (Bool.eq_false_of_not_eq_true hw)

/-- A value is a divert mask when no bit is set but 0 to 5 and 7 to 10 (R133, R204). -/
theorem divertMask_iff (value : BitVec 32) : value &&& 0xFFFFF840#32 = 0#32 ↔
    value.toNat < 2 ^ 16 ∧ BitVec.ofNat 16 value.toNat &&& ~~~divertable = 0#16 := by
  have hmask : ~~~divertable = 0xF840#16 := by decide
  have hbits : ∀ i < 32, (0xFFFFF840#32).getLsbD i = (decide (16 ≤ i) || (0xF840#16).getLsbD i) := by decide
  rw [hmask]
  constructor
  · intro h
    have hbit (i : Nat) (hi : i < 32) (hm : (0xFFFFF840#32).getLsbD i = true) : value.getLsbD i = false := by
      have := congrArg (fun b : BitVec 32 => b.getLsbD i) h
      simpa [BitVec.getLsbD_and, hm] using this
    refine ⟨Nat.lt_pow_two_of_testBit _ fun i hi => ?_, BitVec.eq_of_getLsbD_eq fun i hi => ?_⟩
    · by_cases hi' : i < 32
      · exact hbit i hi' (by rw [hbits i hi', decide_eq_true hi]; rfl)
      · exact Nat.testBit_lt_two_pow (value.isLt.trans_le (Nat.pow_le_pow_right (by decide) (Nat.not_lt.1 hi')))
    · rw [BitVec.getLsbD_and, BitVec.getLsbD_zero]
      cases hm : (0xF840#16).getLsbD i with
      | false => rw [Bool.and_false]
      | true =>
        have hlow := hbit i (by omega) (by rw [hbits i (by omega), hm, Bool.or_true])
        rw [Bool.and_true, BitVec.getLsbD_ofNat]
        exact (congrArg (decide (i < 16) && ·) hlow).trans (Bool.and_false _)
  · rintro ⟨hlt, h⟩
    refine BitVec.eq_of_getLsbD_eq fun i hi => ?_
    rw [BitVec.getLsbD_and, BitVec.getLsbD_zero, hbits i hi]
    by_cases hhigh : 16 ≤ i
    · have hzero : value.getLsbD i = false :=
        Nat.testBit_lt_two_pow (hlt.trans_le (Nat.pow_le_pow_right (by decide) hhigh))
      rw [hzero, Bool.false_and]
    · have hlow : (BitVec.ofNat 16 value.toNat &&& 0xF840#16).getLsbD i = false := by
        rw [h]
        exact BitVec.getLsbD_zero
      rw [BitVec.getLsbD_and, BitVec.getLsbD_ofNat, decide_eq_true (Nat.not_le.1 hhigh), Bool.true_and] at hlow
      rw [decide_eq_false hhigh, Bool.false_or]
      exact hlow

end Sys2Proof.Machine

/-! The rows of the settings table under SET, and the obligation on SET (R133, R134, R145, R153, R187, R188, R200, R201). -/

namespace Sys2Proof.Machine

/-! ### The settings of the ids (section 11.4) -/

theorem settingOf_unnamed : ∀ id : Byte, id = 0#8 ∨ (20 < id.toNat ∧ id.toNat < 32)
    ∨ (59 < id.toNat ∧ id.toNat < 64) ∨ 75 < id.toNat → settingOf id = none := by
  decide

/-- The setting of each id in a group of four is that of its lane or head. -/
theorem settingOf_place (n : Fin 4) : settingOf (BitVec.ofNat 8 (32 + n.val)) = some (.window n)
    ∧ settingOf (BitVec.ofNat 8 (36 + n.val)) = some (.laneHead n)
    ∧ settingOf (BitVec.ofNat 8 (40 + n.val)) = some (.stamping n)
    ∧ settingOf (BitVec.ofNat 8 (44 + n.val)) = some (.dropDistance n)
    ∧ settingOf (BitVec.ofNat 8 (48 + n.val)) = some (.gatePresent n)
    ∧ settingOf (BitVec.ofNat 8 (52 + n.val)) = some (.divertMask n)
    ∧ settingOf (BitVec.ofNat 8 (56 + n.val)) = some (.target n)
    ∧ settingOf (BitVec.ofNat 8 (64 + n.val)) = some (.footFirst n)
    ∧ settingOf (BitVec.ofNat 8 (68 + n.val)) = some (.footWidth n)
    ∧ settingOf (BitVec.ofNat 8 (72 + n.val)) = some (.headDistance n) := by
  match n with
  | 0 | 1 | 2 | 3 => exact ⟨rfl, rfl, rfl, rfl, rfl, rfl, rfl, rfl, rfl, rfl⟩

/-- A number that only a range checks: its setting, its condition and its write. -/
def PlainNumber.names (row : PlainNumber) (x : Setting) : Prop :=
  settingOf row.id = some x ∧ x.plain = true ∧ x.when = (if row.idle then .idleNoHide else .anyState)
    ∧ ∀ v c, x.written v c = (inRange v row.low row.high).bind (fun v => checked true (row.put c v))

theorem plainNumbers_settings : ∀ row ∈ plainNumbers, ∃ x, PlainNumber.names row x := by
  simp only [plainNumbers, List.forall_mem_cons]
  exact ⟨⟨.stallTime, rfl, rfl, rfl, fun _ _ => rfl⟩, ⟨.badLimit, rfl, rfl, rfl, fun _ _ => rfl⟩,
    ⟨.bridge, rfl, rfl, rfl, fun _ _ => rfl⟩, ⟨.minRun, rfl, rfl, rfl, fun _ _ => rfl⟩,
    ⟨.stuckLimit, rfl, rfl, rfl, fun _ _ => rfl⟩, ⟨.fill, rfl, rfl, rfl, fun _ _ => rfl⟩,
    ⟨.closeGap, rfl, rfl, rfl, fun _ _ => rfl⟩, ⟨.maxLines, rfl, rfl, rfl, fun _ _ => rfl⟩,
    ⟨.leadIn, rfl, rfl, rfl, fun _ _ => rfl⟩, ⟨.face, rfl, rfl, rfl, fun _ _ => rfl⟩,
    ⟨.slip, rfl, rfl, rfl, fun _ _ => rfl⟩, ⟨.gain, rfl, rfl, rfl, fun _ _ => rfl⟩,
    ⟨.minArea, rfl, rfl, rfl, fun _ _ => rfl⟩, ⟨.notice, rfl, rfl, rfl, fun _ _ => rfl⟩, nofun⟩

section
variable {tag id : Byte} {value : BitVec 32} {s : State} {c : Settings}

theorem setRow_plainNumber (hs : s.listening) {row : PlainNumber} (hrow : row ∈ plainNumbers) :
    SetRow tag row.id value s (row.idle = false ∨ (s.mdc.mode = .idle ∧ s.htk.table = []))
      (row.low ≤ value.toNat ∧ value.toNat ≤ row.high) (row.put s.settings value.toNat) := by
  obtain ⟨x, hid, hx, hwhen, hwritten⟩ := plainNumbers_settings row hrow
  refine setRow_ranged hs hid hx ?_ (hwritten _ _) ⟨fun ⟨hlo, hhi⟩ => ⟨hlo, hhi, rfl⟩, fun ⟨hlo, hhi, _⟩ => ⟨hlo, hhi⟩⟩
  rw [hwhen]
  cases row.idle with
  | false => exact ⟨fun _ => .inl rfl, fun _ => rfl⟩
  | true => exact met_idleNoHide.trans ⟨.inr, fun h => h.resolve_left nofun⟩

/-! ### The rows of the other settings -/

section Rows
variable (hs : s.listening)
include hs

theorem setRow_encoderStep : SetRow tag 1#8 value s (s.mdc.mode = .idle ∧ s.htk.table = [])
    (50 ≤ value.toNat ∧ value.toNat ≤ 2000 ∧ value.toNat * s.settings.lineInterval ≤ 20000)
    { s.settings with encoderStep := value.toNat } := by
  refine setRow_ranged (x := .encoderStep) (lo := 50) (hi := 2000)
    (b := fun v => decide (v * s.settings.lineInterval ≤ 20000)) (f := fun v => { s.settings with encoderStep := v })
    hs rfl rfl met_idleNoHide rfl ?_
  rw [decide_eq_true_eq]

theorem setRow_lineInterval : SetRow tag 2#8 value s (s.mdc.mode = .idle ∧ s.htk.table = [])
    (1 ≤ value.toNat ∧ value.toNat ≤ 64 ∧ s.settings.encoderStep * value.toNat ≤ 20000)
    { s.settings with lineInterval := value.toNat } := by
  refine setRow_ranged (x := .lineInterval) (lo := 1) (hi := 64)
    (b := fun v => decide (s.settings.encoderStep * v ≤ 20000)) (f := fun v => { s.settings with lineInterval := v })
    hs rfl rfl met_idleNoHide rfl ?_
  rw [decide_eq_true_eq]

theorem setRow_autoMask : SetRow tag 8#8 value s True (value.toNat ≤ 1)
    { s.settings with autoMask := decide (value.toNat = 1) } := by
  refine setRow (x := .autoMask) hs rfl rfl met_anyState (fun hmany => ?_) (fun hfit => ?_)
  · simp only [Setting.written, switchOf_eq, if_neg hmany]
    rfl
  · simp only [Setting.written, switchOf_eq, if_pos hfit]
    rfl

theorem setRow_stamping (n : Fin 4) : SetRow tag (BitVec.ofNat 8 (40 + n.val)) value s True (value.toNat ≤ 1)
    { s.settings with stamping := s.settings.stamping.set n (decide (value.toNat = 1)) } := by
  obtain ⟨-, -, hid, -⟩ := settingOf_place n
  refine setRow (x := .stamping n) hs hid rfl met_anyState (fun hmany => ?_) (fun hfit => ?_)
  · simp only [Setting.written, switchOf_eq, if_neg hmany]
    rfl
  · simp only [Setting.written, switchOf_eq, if_pos hfit]
    rfl

theorem setRow_saleUnit {free : Prop} (hfree : SetWhen.idleNoTallies.met s = true ↔ free) :
    SetRow tag 16#8 value s free (value.toNat ≤ 2) { s.settings with saleUnit :=
      if value.toNat = 0 then .quarterFoot else if value.toNat = 1 then .tenthFoot else .decimetre } := by
  refine setRow (x := .saleUnit) hs rfl rfl hfree (fun hmany => ?_) (fun hfit => ?_)
  · simp only [Setting.written, saleUnitOf_eq, if_neg hmany]
    rfl
  · simp only [Setting.written, saleUnitOf_eq, if_pos hfit]
    rfl

theorem setRow_rounding {free : Prop} (hfree : SetWhen.idleNoTallies.met s = true ↔ free) :
    SetRow tag 17#8 value s free (value.toNat ≤ 1)
      { s.settings with rounding := if value.toNat = 0 then .nearest else .down } := by
  refine setRow (x := .rounding) hs rfl rfl hfree (fun hmany => ?_) (fun hfit => ?_)
  · simp only [Setting.written, roundingOf_eq, if_neg hmany]
    rfl
  · simp only [Setting.written, roundingOf_eq, if_pos hfit]
    rfl

theorem setRow_window (n : Fin 4) {w : Window}
    (hw : w = ⟨decide (value.toNat / 2 ^ 24 = 1), value.toNat / 2 ^ 12 % 2 ^ 12, value.toNat % 2 ^ 12⟩) :
    SetRow tag (BitVec.ofNat 8 (32 + n.val)) value s (s.mdc.mode = .idle ∧ s.htk.table = [])
      (value.toNat < 2 ^ 25 ∧ w.first ≤ w.last ∧ w.last ≤ 1023
        ∧ (w.enabled = true → ∀ j, j ≠ n → (s.settings.window.get j).enabled = true →
          w.last < (s.settings.window.get j).first ∨ (s.settings.window.get j).last < w.first))
      { s.settings with window := s.settings.window.set n w } := by
  obtain ⟨hid, -⟩ := settingOf_place n
  have hwritten (hlt : value.toNat < 2 ^ 25) : (Setting.window n).written value.toNat s.settings =
      checked (decide (w.first ≤ 1023 ∧ w.last ≤ 1023) && windowFits s.settings n w)
        { s.settings with window := s.settings.window.set n w } := by
    have hwindow : windowOf value.toNat = some w := (if_pos hlt).trans (congrArg some hw.symm)
    simp only [Setting.written, hwindow]
    rfl
  refine setRow (x := .window n) hs hid rfl met_idleNoHide (fun hunfit => ?_) (fun ⟨hlt, horder, hline, hapart⟩ => ?_)
  · by_cases hlt : value.toNat < 2 ^ 25
    · rw [hwritten hlt]
      refine if_neg fun hfit => hunfit ?_
      obtain ⟨hcells, hfits⟩ := Bool.and_eq_true_iff.1 hfit
      obtain ⟨horder, hapart⟩ := (windowFits_iff _ _ _).1 hfits
      exact ⟨hlt, horder, (of_decide_eq_true hcells).2, hapart⟩
    · have hwindow : windowOf value.toNat = none := if_neg hlt
      simp only [Setting.written, hwindow]
      rfl
  · rw [hwritten hlt]
    refine if_pos (Bool.and_eq_true_iff.2 ⟨decide_eq_true ⟨horder.trans hline, hline⟩, ?_⟩)
    exact (windowFits_iff _ _ _).2 ⟨horder, hapart⟩

theorem setRow_laneHead (n : Fin 4) :
    SetRow tag (BitVec.ofNat 8 (36 + n.val)) value s (s.mdc.mode = .idle ∧ s.htk.table = [])
      (value.toNat = 255 ∨ ∃ h : Fin 4, value.toNat = h.val
        ∧ s.settings.headDistance.get h + 100 ≤ s.settings.dropDistance.get n)
      { s.settings with laneHead :=
        s.settings.laneHead.set n (if h : value.toNat < 4 then some ⟨value.toNat, h⟩ else none) } := by
  obtain ⟨-, hid, -⟩ := settingOf_place n
  have hwritten (hv : value.toNat < 4 ∨ value.toNat = 255) : (Setting.laneHead n).written value.toNat s.settings =
      checked (dropDistanceFits s.settings (if h : value.toNat < 4 then some ⟨value.toNat, h⟩ else none)
          (s.settings.dropDistance.get n))
        { s.settings with laneHead :=

        s.settings.laneHead.set n (if h : value.toNat < 4 then some ⟨value.toNat, h⟩ else none) } := by
    simp only [Setting.written, laneHeadOf_fits hv]
    rfl
  refine setRow (x := .laneHead n) hs hid rfl met_idleNoHide (fun hunfit => ?_) (fun hfit => ?_)
  · by_cases hv : value.toNat < 4 ∨ value.toNat = 255
    · rw [hwritten hv]
      refine if_neg fun hfits => hunfit ?_
      obtain hlt | hnone := hv
      · rw [dif_pos hlt] at hfits
        exact .inr ⟨⟨value.toNat, hlt⟩, rfl, of_decide_eq_true hfits⟩
      · exact .inl hnone
    · simp only [Setting.written, laneHeadOf_misfit hv]
      rfl
  · obtain hnone | ⟨h, hv, hfar⟩ := hfit
    · rw [hwritten (.inr hnone), dif_neg (by omega)]
      rfl
    · have hlt : value.toNat < 4 := hv ▸ h.isLt
      have hh : (⟨value.toNat, hlt⟩ : Fin 4) = h := Fin.ext hv
      rw [hwritten (.inl hlt), dif_pos hlt, hh]
      exact if_pos (decide_eq_true hfar)

theorem setRow_dropDistance (n : Fin 4) :
    SetRow tag (BitVec.ofNat 8 (44 + n.val)) value s (s.mdc.mode = .idle ∧ s.htk.table = [])
      (500 ≤ value.toNat ∧ value.toNat ≤ 20000
        ∧ ∀ h, s.settings.laneHead.get n = some h → s.settings.headDistance.get h + 100 ≤ value.toNat)
      { s.settings with dropDistance := s.settings.dropDistance.set n value.toNat } := by
  obtain ⟨-, -, -, hid, -⟩ := settingOf_place n
  refine setRow_ranged (x := .dropDistance n) (lo := 500) (hi := 20000)
    (b := fun v => dropDistanceFits s.settings (s.settings.laneHead.get n) v)
    (f := fun v => { s.settings with dropDistance := s.settings.dropDistance.set n v })
    hs hid rfl met_idleNoHide rfl ?_
  rw [dropDistanceFits_iff]
  simp only [Option.mem_toList]

theorem setRow_divertMask (n : Fin 4) :
    SetRow tag (BitVec.ofNat 8 (52 + n.val)) value s True (value &&& 0xFFFFF840#32 = 0#32)
      { s.settings with divertMask := s.settings.divertMask.set n (BitVec.ofNat 16 value.toNat) } := by
  obtain ⟨-, -, -, -, -, hid, -⟩ := settingOf_place n
  have hcheck : (decide (value.toNat < 2 ^ 16) && decide (BitVec.ofNat 16 value.toNat &&& ~~~divertable = 0#16)) = true ↔
      value &&& 0xFFFFF840#32 = 0#32 := by
    rw [Bool.and_eq_true, decide_eq_true_eq, decide_eq_true_eq, divertMask_iff]
  exact setRow (x := .divertMask n) hs hid rfl met_anyState (fun hunfit => if_neg fun hb => hunfit (hcheck.1 hb))
    (fun hfit => if_pos (hcheck.2 hfit))

theorem setRow_footFirst (n : Fin 4) :
    SetRow tag (BitVec.ofNat 8 (64 + n.val)) value s (s.mdc.mode = .idle ∧ s.htk.table = [])
      (value.toNat ≤ 1023 ∧ value.toNat + s.settings.footWidth.get n ≤ 1024)
      { s.settings with footFirst := s.settings.footFirst.set n value.toNat } := by
  obtain ⟨-, -, -, -, -, -, -, hid, -⟩ := settingOf_place n
  refine setRow_ranged (x := .footFirst n) (lo := 0) (hi := 1023)
    (b := fun v => decide (v + s.settings.footWidth.get n - 1 ≤ 1023))
    (f := fun v => { s.settings with footFirst := s.settings.footFirst.set n v }) hs hid rfl met_idleNoHide rfl ?_
  rw [decide_eq_true_eq]
  omega

theorem setRow_footWidth (n : Fin 4) :
    SetRow tag (BitVec.ofNat 8 (68 + n.val)) value s (s.mdc.mode = .idle ∧ s.htk.table = [])
      (1 ≤ value.toNat ∧ value.toNat ≤ 32 ∧ s.settings.footFirst.get n + value.toNat ≤ 1024)
      { s.settings with footWidth := s.settings.footWidth.set n value.toNat } := by
  obtain ⟨-, -, -, -, -, -, -, -, hid, -⟩ := settingOf_place n
  refine setRow_ranged (x := .footWidth n) (lo := 1) (hi := 32)
    (b := fun v => decide (s.settings.footFirst.get n + v - 1 ≤ 1023))
    (f := fun v => { s.settings with footWidth := s.settings.footWidth.set n v }) hs hid rfl met_idleNoHide rfl ?_
  rw [decide_eq_true_eq]
  omega

theorem setRow_headDistance (n : Fin 4) :
    SetRow tag (BitVec.ofNat 8 (72 + n.val)) value s (s.mdc.mode = .idle ∧ s.htk.table = [])
      (200 ≤ value.toNat ∧ value.toNat ≤ 15000
        ∧ ∀ l, s.settings.laneHead.get l = some n → value.toNat + 100 ≤ s.settings.dropDistance.get l)
      { s.settings with headDistance := s.settings.headDistance.set n value.toNat } := by
  obtain ⟨-, -, -, -, -, -, -, -, -, hid⟩ := settingOf_place n
  refine setRow_ranged (x := .headDistance n) (lo := 200) (hi := 15000)
    (b := fun v => headDistanceFits s.settings n v)
    (f := fun v => { s.settings with headDistance := s.settings.headDistance.set n v })
    hs hid rfl met_idleNoHide rfl ?_
  rw [headDistanceFits_iff]

/-! ### The settings whose write does more (R134, R153, R200) -/

theorem exec_set_effect {x : Setting} {s' : State} (hid : settingOf id = some x) (hx : ∀ l, x ≠ .target l)
    (hwhen : x.when.met s = true) (hwritten : x.written value.toNat s.settings = some c)
    (hafter : afterWrite x ({ s with settings := c }.inHand ⟨tag, .set id value⟩) = s'.inHand ⟨tag, .set id value⟩) :
    exec (.set tag id value) s = .next (s'.answers tag (.set id value) (.ok (id :: bytes32 value))) := by
  have hreport : setReport x c (s.inHand ⟨tag, .set id value⟩) = [] := by
    cases x with
    | target l => exact absurd rfl (hx l)
    | _ => rfl
  refine receive_answers hs ((serveSet_ok (s := s.inHand _) hid hwhen hwritten).trans ?_)
  rw [heldValue hx hwritten, hreport, List.append_nil]
  exact congrArg (·, _) hafter

theorem exec_set_gate_off (n : Fin 4) (hidle : s.mdc.mode = .idle) (hv : value.toNat = 0) :
    exec (.set tag (BitVec.ofNat 8 (48 + n.val)) value) s = .next ({ s with
      settings := { s.settings with gatePresent := s.settings.gatePresent.set n false }
      tru := { s.tru with
        gateLine := s.tru.gateLine.set n false, gateTimer := s.tru.gateTimer.set n false } }.answers tag
      (.set (BitVec.ofNat 8 (48 + n.val)) value) (.ok (BitVec.ofNat 8 (48 + n.val) :: bytes32 value))) := by
  obtain ⟨-, -, -, -, hid, -⟩ := settingOf_place n
  refine exec_set_effect (c := { s.settings with gatePresent := s.settings.gatePresent.set n false })
    hs hid nofun (met_idle.2 hidle) (by rw [hv]; rfl) ?_
  refine if_neg ?_
  show ¬(s.settings.gatePresent.set n false).get n = true
  rw [Quad.get_set_same]
  nofun

theorem exec_set_gate_on (n : Fin 4) (hidle : s.mdc.mode = .idle) (hv : value.toNat = 1) :
    exec (.set tag (BitVec.ofNat 8 (48 + n.val)) value) s = .next ({ s with
      settings := { s.settings with gatePresent := s.settings.gatePresent.set n true } }.answers tag
      (.set (BitVec.ofNat 8 (48 + n.val)) value) (.ok (BitVec.ofNat 8 (48 + n.val) :: bytes32 value))) := by
  obtain ⟨-, -, -, -, hid, -⟩ := settingOf_place n
  refine exec_set_effect (c := { s.settings with gatePresent := s.settings.gatePresent.set n true })
    hs hid nofun (met_idle.2 hidle) (by rw [hv]; rfl) (if_pos ?_)
  exact Quad.get_set_same ..

theorem exec_set_gate_range (n : Fin 4) (hidle : s.mdc.mode = .idle) (hv : 1 < value.toNat) :
    exec (.set tag (BitVec.ofNat 8 (48 + n.val)) value) s =
      .next (s.answers tag (.set (BitVec.ofNat 8 (48 + n.val)) value) (.refuse .range)) := by
  obtain ⟨-, -, -, -, hid, -⟩ := settingOf_place n
  refine exec_set_range hs hid (met_idle.2 hidle) ?_
  simp only [Setting.written, switchOf_eq, if_neg (Nat.not_le.2 hv)]
  rfl

theorem exec_set_attn (hv : value.toNat ≤ 31) : exec (.set tag 20#8 value) s = .next ({ s with
      settings := { s.settings with attnThreshold := value.toNat }
      rpq := { s.rpq with attn := decide (value.toNat < s.rpq.queue.length) } }.answers tag (.set 20#8 value)
      (.ok (20#8 :: bytes32 value))) := by
  refine exec_set_effect (x := .attnThreshold) (c := { s.settings with attnThreshold := value.toNat }) hs rfl
    nofun rfl ?_ rfl
  have hin : inRange value.toNat 0 31 = some value.toNat := if_pos ⟨Nat.zero_le _, hv⟩
  simp only [Setting.written, hin]
  rfl

theorem exec_set_attn_range (hv : 31 < value.toNat) :
    exec (.set tag 20#8 value) s = .next (s.answers tag (.set 20#8 value) (.refuse .range)) := by
  refine exec_set_range (x := .attnThreshold) hs rfl rfl ?_
  have hin : inRange value.toNat 0 31 = none := if_neg fun h => Nat.not_le.2 hv h.2
  simp only [Setting.written, hin]
  rfl

end Rows

end

end Sys2Proof.Machine

/-! SET of a pack target (R145, R153, R189), and the obligation on SET. -/

namespace Sys2Proof.Machine

section
variable {tag id : Byte} {value : BitVec 32} {s : State} {c : Settings} {n : Fin 4}

/-! ### The check of a target (R145, R153) -/

/-- SET of a target checks an OPEN pack against it. -/
theorem exec_set_target (hs : s.listening) (hid : settingOf id = some (.target n))
    (hwritten : (Setting.target n).written value.toNat s.settings = some c) :
    exec (.set tag id value) s = .next ((targetCheck n { s with settings := c }).answers tag (.set id value)
      (.ok (id :: bytes32 (BitVec.ofNat 32 ((Setting.target n).value c)) ++ targetReport n (c.target.get n) s))) := by
  refine receive_answers hs ((serveSet_ok (s := s.inHand _) hid rfl hwritten).trans ?_)
  exact congrArg (·, _) ((targetCheck_link n).inHand (targetCheck_upstream n { s with settings := c }).cml _)

theorem packCode_closeOutcome (s : State) :
    (closeOutcome s).packCode = if s.tlu.tickets.length < 8 then 0#8 else 1#8 := by
  by_cases hroom : s.tlu.tickets.length < 8
  · rw [closeOutcome_room hroom, if_pos hroom]
    rfl
  · rw [closeOutcome_full (Nat.not_lt.1 hroom), if_neg hroom]
    rfl

/-- A target that an OPEN pack meets closes it, and the reply says which pack and how. -/
theorem target_met (hmet : (s.tlu.packs.get n).state = .opened ∧ (s.tlu.packs.get n).meets (c.target.get n) = true) :
    targetCheck n { s with settings := c } = closePack n .target { s with settings := c }
    ∧ targetReport n (c.target.get n) s =
      field 2 (s.tlu.packs.get n).number ++ [if s.tlu.tickets.length < 8 then 0#8 else 1#8] := by
  refine ⟨if_pos (Bool.and_eq_true_iff.2 ⟨decide_eq_true hmet.1, hmet.2⟩), (if_pos hmet).trans ?_⟩
  rw [packCode_closeOutcome]

theorem target_unmet
    (hunmet : ¬((s.tlu.packs.get n).state = .opened ∧ (s.tlu.packs.get n).meets (c.target.get n) = true)) :
    targetCheck n { s with settings := c } = { s with settings := c }
    ∧ targetReport n (c.target.get n) s = [0#8, 0#8, 0xFF#8] := by
  refine ⟨if_neg fun hboth => hunmet ?_, if_neg hunmet⟩
  obtain ⟨hopen, hmeets⟩ := Bool.and_eq_true_iff.1 hboth
  exact ⟨of_decide_eq_true hopen, hmeets⟩

/-! ### The value of a target (R204) -/

/-- The target that a mode and a number set. -/
def targetCoded (mode number : Nat) : Target :=
  if mode = 0 then ⟨.count, number⟩ else if mode = 1 then ⟨.area, number⟩ else ⟨.none, 0⟩

/-- A mode and a number in its range. -/
def TargetCodeFits (mode number : Nat) : Prop :=
  (mode = 0 ∧ 1 ≤ number ∧ number ≤ 999) ∨ (mode = 1 ∧ 1 ≤ number ∧ number ≤ 9999999) ∨ mode = 2

theorem targetCoded_of_fits {mode number : Nat} (hfits : TargetCodeFits mode number) : ∃ m, targetModeOf mode = some m
    ∧ targetInRange m number = true ∧ heldTarget m number = targetCoded mode number := by
  obtain ⟨rfl, hv⟩ | ⟨rfl, hv⟩ | rfl := hfits
  · exact ⟨.count, rfl, decide_eq_true hv, rfl⟩
  · exact ⟨.area, rfl, decide_eq_true hv, rfl⟩
  · exact ⟨.none, rfl, rfl, rfl⟩

theorem fits_of_targetModeOf {mode number : Nat} {m : TargetMode} (hm : targetModeOf mode = some m)
    (hrange : targetInRange m number = true) : TargetCodeFits mode number := by
  match mode with
  | 0 => cases hm; exact .inl ⟨rfl, of_decide_eq_true hrange⟩
  | 1 => cases hm; exact .inr (.inl ⟨rfl, of_decide_eq_true hrange⟩)
  | 2 => exact .inr (.inr rfl)
  | k + 3 => exact absurd hm nofun

theorem targetCoded_meets (p : Pack) {mode number : Nat} (hfits : TargetCodeFits mode number) :
    p.meets (targetCoded mode number) = true ↔ mode = 0 ∧ number ≤ p.hides ∨ mode = 1 ∧ number ≤ p.units := by
  obtain ⟨rfl, -⟩ | ⟨rfl, -⟩ | rfl := hfits <;> simp [targetCoded, Pack.meets]

theorem written_target_fits (hfits : TargetCodeFits (value.toNat / 2 ^ 24) (value.toNat % 2 ^ 24)) :
    (Setting.target n).written value.toNat c = some { c with
      target := c.target.set n (targetCoded (value.toNat / 2 ^ 24) (value.toNat % 2 ^ 24)) } := by
  obtain ⟨m, hm, hrange, hheld⟩ := targetCoded_of_fits hfits
  have hof : targetOf value.toNat = some (m, value.toNat % 2 ^ 24) := by rw [targetOf, hm]; rfl
  simp only [Setting.written, hof]
  rw [← hheld]
  exact if_pos hrange

theorem written_target_misfit (hmisfit : ¬TargetCodeFits (value.toNat / 2 ^ 24) (value.toNat % 2 ^ 24)) :
    (Setting.target n).written value.toNat c = none := by
  cases hm : targetModeOf (value.toNat / 2 ^ 24) with
  | none =>
    have hof : targetOf value.toNat = none := by rw [targetOf, hm]; rfl
    simp only [Setting.written, hof]
    rfl
  | some m =>
    have hof : targetOf value.toNat = some (m, value.toNat % 2 ^ 24) := by rw [targetOf, hm]; rfl
    simp only [Setting.written, hof]
    exact if_neg fun hrange => hmisfit (fits_of_targetModeOf hm hrange)

/-- The value held of a target (R189). -/
theorem heldValue_target (hwritten : (Setting.target n).written value.toNat s.settings = some c) :
    BitVec.ofNat 32 ((Setting.target n).value c) = if value.toNat / 2 ^ 24 = 2 then 0x02000000#32 else value := by
  rw [value_of_written_target hwritten]
  split
  · rfl
  · rw [BitVec.ofNat_toNat, BitVec.setWidth_eq]

end

/-- Settles O46: the numbers that only a range checks, the settings whose write does more, any setting at all, and the
other settings row by row. -/
theorem setWritesASetting : Obligations.SetWritesASetting := by
  refine ⟨⟨fun tag id value s hs => ⟨fun hid => ?_, fun row hrow hid => ?_⟩, fun tag value lane s hs => ?_⟩,
    fun tag id value x s hs hid => ⟨fun hbusy => ?_, fun hfree hnone => ?_, fun c hfree hwritten => ?_⟩,
    fun tag value n s hs => ?_⟩
  · exact exec_set_unnamed hs (settingOf_unnamed id hid)
  · subst hid
    exact setRow_plainNumber hs hrow
  · intro v ok no gate
    refine ⟨fun hidle hnohide => ?_, fun hidle => ?_, fun hv => exec_set_attn hs hv, fun hv => exec_set_attn_range hs hv⟩
    · obtain ⟨-, hno, hok⟩ := setRow_encoderStep (tag := tag) (value := value) hs
      obtain ⟨-, hno', hok'⟩ := setRow_lineInterval (tag := tag) (value := value) hs
      exact ⟨hok ⟨hidle, hnohide⟩, hno ⟨hidle, hnohide⟩, hok' ⟨hidle, hnohide⟩, hno' ⟨hidle, hnohide⟩⟩
    · exact ⟨exec_set_gate_off hs lane hidle, exec_set_gate_on hs lane hidle, exec_set_gate_range hs lane hidle⟩
  · exact exec_set_busy hs hid hbusy
  · exact exec_set_range hs hid hfree hnone
  · intro held
    refine ⟨fun hkind hattn => ?_, ?_, ?_⟩
    · exact exec_set_plain hs hid (x.plain_iff.2 ⟨hkind, hattn⟩) hfree hwritten
    · rintro l rfl hclosed
      obtain ⟨hcheck, hreport⟩ := target_unmet (c := c) (n := l) (s := s) fun hmet => hclosed hmet.1
      rw [exec_set_target hs hid hwritten, hcheck, hreport]
    · rintro l rfl hopen
      by_cases hmeets : (s.tlu.packs.get l).meets (c.target.get l) = true
      · obtain ⟨hcheck, hreport⟩ := target_met ⟨hopen, hmeets⟩
        rw [exec_set_target hs hid hwritten, if_pos hmeets, hcheck, hreport, ← List.append_assoc]
      · obtain ⟨hcheck, hreport⟩ := target_unmet (c := c) (n := l) (s := s) fun hmet => hmeets hmet.2
        rw [exec_set_target hs hid hwritten, if_neg hmeets, hcheck, hreport]
  · intro v c idle quiet unmeasured id reply row
    obtain ⟨-, -, -, -, hgate, -, htarget, -⟩ := settingOf_place n
    refine ⟨setRow_encoderStep hs, setRow_lineInterval hs, setRow_autoMask hs, setRow_saleUnit hs met_idleNoTallies,
      setRow_rounding hs met_idleNoTallies, setRow_window hs n rfl, setRow_laneHead hs n, setRow_stamping hs n,
      setRow_dropDistance hs n, fun hbusy => ?_, setRow_divertMask hs n, ?_, setRow_footFirst hs n, setRow_footWidth hs n,
      setRow_headDistance hs n⟩
    · exact exec_set_busy hs hgate (decide_eq_false hbusy)
    · intro mode number fits target held written p met
      have hcoded (hfits : fits) : exec (.set tag (id 56) value) s = reply (id 56) (targetCheck n written)
          (.ok (held ++ targetReport n target s)) := by
        have hwritten := written_target_fits (n := n) (c := s.settings) hfits
        have hget : (c.target.set n target).get n = target := Quad.get_set_same ..
        rw [exec_set_target hs htarget hwritten, heldValue_target hwritten]
        exact congrArg (fun t => reply (id 56) (targetCheck n written) (.ok (held ++ targetReport n t s))) hget
      have hmeets (hfits : fits) : (s.tlu.packs.get n).state = .opened
          ∧ (s.tlu.packs.get n).meets ((c.target.set n target).get n) = true ↔ met := by
        rw [Quad.get_set_same]
        exact and_congr_right fun _ => targetCoded_meets _ hfits
      refine ⟨fun hmisfit => exec_set_range hs htarget rfl (written_target_misfit hmisfit), fun hfits hunmet => ?_,
        fun hfits hmet => ?_⟩
      · obtain ⟨hcheck, hreport⟩ := target_unmet (c := written.settings) fun hm => hunmet ((hmeets hfits).1 hm)
        rw [Quad.get_set_same] at hreport
        rw [hcoded hfits, hreport]
        exact congrArg (fun u => reply (id 56) u _) hcheck
      · obtain ⟨hcheck, hreport⟩ := target_met (c := written.settings) ((hmeets hfits).2 hmet)
        rw [Quad.get_set_same] at hreport
        rw [hcoded hfits, hreport, ← List.append_assoc]
        exact congrArg (fun u => reply (id 56) u _) hcheck

end Sys2Proof.Machine

/-! The bytes of the links (chapter 13): fields, the CRC, frames and replies, the codes, tickets and records. -/

namespace Sys2Proof.Machine

/-! ### Fields (R203) -/

theorem bigEndian_length (n v : Nat) : (bigEndian n v).length = n := by
  induction n generalizing v with
  | zero => rfl
  | succ k ih => rw [bigEndian, List.length_append, ih, List.length_singleton]

/-- Byte i of a field is digit n − 1 − i of the number. -/
theorem bigEndian_getD (n v : Nat) {i : Nat} (hi : i < n) :
    (bigEndian n v).getD i 0 = BitVec.ofNat 8 (v / 256 ^ (n - 1 - i)) := by
  induction n generalizing v with
  | zero => exact absurd hi (Nat.not_lt_zero i)
  | succ k ih =>
    rw [bigEndian]
    by_cases hk : i < k
    · have hdigit : k + 1 - 1 - i = (k - 1 - i) + 1 := by omega
      rw [List.getD_append _ _ _ _ (by rwa [bigEndian_length]), ih _ hk, hdigit, Nat.pow_succ', Nat.div_div_eq_div_mul]
    · have hlast : i = k := by omega
      subst hlast
      rw [List.getD_append_right _ _ _ _ (by rw [bigEndian_length]), bigEndian_length, Nat.sub_self, Nat.add_sub_cancel,
        Nat.sub_self, Nat.pow_zero, Nat.div_one]
      rfl

theorem field_fits {n v : Nat} (hv : v < 256 ^ n) : field n v = bigEndian n v := if_pos hv

theorem field_length (n v : Nat) : (field n v).length = n := by
  unfold field
  split
  · exact bigEndian_length n v
  · rw [List.length_map, List.length_range]

theorem bytes16_length (w : BitVec 16) : (bytes16 w).length = 2 := rfl

theorem bytes32_length (w : BitVec 32) : (bytes32 w).length = 4 := rfl

theorem bytes16_eq_field (w : BitVec 16) : bytes16 w = field 2 w.toNat := by
  rw [field_fits w.isLt]
  simp only [bytes16, highByte, lowByte, bigEndian, BitVec.extractLsb', Nat.shiftRight_eq_div_pow, List.nil_append,
    Nat.reducePow, Nat.div_one, List.singleton_append]

theorem bytes32_eq_field (w : BitVec 32) : bytes32 w = field 4 w.toNat := by
  rw [field_fits w.isLt]
  simp only [bytes32, bigEndian, BitVec.extractLsb', Nat.shiftRight_eq_div_pow, List.nil_append, Nat.reducePow,
    Nat.div_one, Nat.div_div_eq_div_mul, Nat.reduceMul, List.cons_append]

/-! ### The CRC (R203) -/

theorem crcShift_eq : crcShift = fun r => if r.getLsbD 15 then (r <<< 1) ^^^ 0x1021#16 else r <<< 1 := by
  funext r
  rw [crcShift, BitVec.msb_eq_getLsbD_last]

theorem crc16_snoc (bytes : List Byte) (b : Byte) :
    crc16 (bytes ++ [b]) = crcShift^[8] (crc16 bytes ^^^ (b ++ 0#8)) := by
  rw [crc16, List.foldl_append]
  rfl

/-- The CRC of the nine digits, byte by byte. -/
theorem crc16_digits :
    crc16 [0x31#8, 0x32#8, 0x33#8, 0x34#8, 0x35#8, 0x36#8, 0x37#8, 0x38#8, 0x39#8] = 0x29B1#16 := by
  have h1 : crcByte 0xFFFF#16 0x31#8 = 0xC782#16 := by decide
  have h2 : crcByte 0xC782#16 0x32#8 = 0x3DBA#16 := by decide
  have h3 : crcByte 0x3DBA#16 0x33#8 = 0x5BCE#16 := by decide
  have h4 : crcByte 0x5BCE#16 0x34#8 = 0x5349#16 := by decide
  have h5 : crcByte 0x5349#16 0x35#8 = 0x4560#16 := by decide
  have h6 : crcByte 0x4560#16 0x36#8 = 0x2EF4#16 := by decide
  have h7 : crcByte 0x2EF4#16 0x37#8 = 0x7718#16 := by decide
  have h8 : crcByte 0x7718#16 0x38#8 = 0xA12B#16 := by decide
  have h9 : crcByte 0xA12B#16 0x39#8 = 0x29B1#16 := by decide
  simp only [crc16, List.foldl_cons, List.foldl_nil, h1, h2, h3, h4, h5, h6, h7, h8, h9]

/-! ### Requests and replies (R181, R185, R205) -/

section Kinds
variable {kind : Byte} {payload : List Byte}

theorem kind_of_toNat {n : Nat} (hkind : kind.toNat = n) : kind = BitVec.ofNat 8 n := by
  rw [← hkind, BitVec.ofNat_toNat, BitVec.setWidth_eq]

theorem whenEmpty_kind {r : Request} (hr : r.kind = kind) : (parseRequest.whenEmpty kind payload r).kind = kind := by
  unfold parseRequest.whenEmpty
  split
  · exact hr
  · rfl

theorem whenOne_kind {f : Byte → Request} (hf : ∀ b, (f b).kind = kind) :
    (parseRequest.whenOne kind payload f).kind = kind := by
  unfold parseRequest.whenOne
  split
  · exact hf _
  · rfl

theorem whenWord_kind {f : BitVec 16 → Request} (hf : ∀ w, (f w).kind = kind) :
    (parseRequest.whenWord kind payload f).kind = kind := by
  unfold parseRequest.whenWord
  split
  · exact hf _
  · rfl

/-- The request a telegram makes carries its kind. -/
theorem parseRequest_kind (kind : Byte) (payload : List Byte) : (parseRequest kind payload).kind = kind := by
  unfold parseRequest
  split
  case h_25 => rfl
  all_goals
    rename_i hkind
    replace hkind := (kind_of_toNat hkind).symm
  any_goals exact whenEmpty_kind hkind
  any_goals exact whenOne_kind fun _ => hkind
  any_goals exact whenWord_kind fun _ => hkind
  case h_4 =>
    split
    · split
      · exact hkind
      · rfl
    · rfl
  all_goals
    split
    · exact hkind
    · rfl

end Kinds

/-! ### Lot sets, tickets and records (R204, R207) -/

/-- Bit n of a lot set stands for slot n. -/
theorem lotSetByte_bit (q : Quad Bool) (n : Nat) :
    (lotSetByte q).getLsbD n = if h : n < 4 then q.get ⟨n, h⟩ else false := by
  have hlow : ∀ a b c d : Bool, ∀ n < 8, (lotSetByte ⟨a, b, c, d⟩).getLsbD n =
      if h : n < 4 then (⟨a, b, c, d⟩ : Quad Bool).get ⟨n, h⟩ else false := by
    decide
  by_cases hn : n < 8
  · exact hlow q.e0 q.e1 q.e2 q.e3 n hn
  · rw [BitVec.getLsbD_of_ge _ _ (Nat.not_lt.1 hn), dif_neg (by omega)]

theorem ticketBytes_length (t : Ticket) : (ticketBytes t).length = 24 := by
  simp only [ticketBytes, List.length_append, field_length, List.length_cons, List.length_nil]

/-- How many bytes the body of each kind of record has (R207). -/
def Record.bodySize (r : Record) : Nat :=
  match r with
    | .hide _ => 30
    | .lineHeld _ _ | .scanLost _ _ => 5
    | .mode _ _ _ _ _ _ => 12
    | .cellStuck _ _ _ _ _ => 10
    | .tableFull _ _ _ => 6
    | .transitFull _ _ _ _ | .packWait _ _ _ _ _ _ | .stall _ _ _ _ => 11
    | .stampMiss _ _ _ _ _ _ _ => 14
    | .headFault _ _ _ _ _ => 7
    | .ticket _ => 24
    | .calResult _ _ _ _ _ _ _ => 21

theorem recordBody_length (r : Record) : r.body.length = r.bodySize := by
  cases r <;> simp only [Record.bodySize, Record.body, List.length_append, field_length, bytes16_length,
    bytes32_length, List.length_cons, List.length_nil, ticketBytes_length]

/-- A record in a FETCH reply: kind code, level, body length, body. -/
theorem recordBytes_eq (r : Record) :
    recordBytes r = [r.code, BitVec.ofNat 8 r.level, BitVec.ofNat 8 r.bodySize] ++ r.body := by
  have hlevel : r.level < 256 := r.level_bounds.2.trans_lt (by decide)
  have hsize : r.bodySize < 256 := by cases r <;> exact of_decide_eq_true rfl
  rw [recordBytes, recordBody_length, field_one hlevel, field_one hsize]
  rfl

theorem headCauseCode_bytes (code : Byte) : bytes16 (HeadCause.code code).word = [0#8, code] :=
  congrArg₂ (fun a b => [a, b]) (BitVec.extractLsb'_append_eq_left (a := 0#8) (b := code))
    (BitVec.extractLsb'_append_eq_right (a := 0#8) (b := code))

theorem boolCode_not (b : Bool) : boolCode (!b) = if b then 0#8 else 1#8 := by
  cases b <;> rfl

theorem small_code (flags : FlagSet) :
    BitVec.ofNat 8 (if hasFlag flags .small then 1 else 3) = if flags &&& 0x0080#16 = 0#16 then 3#8 else 1#8 := by
  by_cases hzero : flags &&& 0x0080#16 = 0#16
  · rw [if_pos hzero, if_neg fun hsmall => (hasFlag_iff flags .small).1 hsmall hzero]
  · rw [if_neg hzero, if_pos ((hasFlag_iff flags .small).2 hzero)]

/-- A HIDE record, its level and its optional fields written out. -/
theorem recordBytes_hide (r : HideReport) : recordBytes (.hide r) =
    [0x01#8, if r.flags &&& 0x0080#16 = 0#16 then 3#8 else 1#8, 30#8]
      ++ bytes16 r.tag ++ [optionalPlace r.lane] ++ field 5 r.area ++ field 2 r.figure ++ [r.unit.code] ++ field 5 r.fill
      ++ field 4 r.length ++ field 2 r.width ++ field 1 r.pieces ++ bytes16 r.flags ++ [r.fate.code]
      ++ field 2 (r.pack.getD 0) ++ [lotSetByte r.lots, r.outcome.code] := by
  rw [recordBytes_eq, ← small_code]
  simp only [Record.code, Record.level, Record.bodySize, Record.body, List.append_assoc]

/-- Settles O48: fields, the CRC, frames, replies, codes, and each kind of record by its body. -/
theorem fieldsAndRepliesOnTheLink : Obligations.FieldsAndRepliesOnTheLink := by
  refine ⟨fun n v => ⟨field_length n v, fun hv i hi => ?_⟩, bytes16_eq_field, bytes32_eq_field,
    ⟨rfl, fun bytes b => ?_, crc16_digits⟩, fun _ _ _ => rfl, fun _ _ _ => ?_, parseRequest_kind, ?_, lotSetByte_bit,
    fun _ => rfl, fun r => ?_, ?_⟩
  · rw [field_fits hv, bigEndian_getD n v hi]
  · intro bit
    rw [crc16_snoc, crcShift_eq]
  · rfl
  · exact ⟨rfl, rfl, rfl, rfl, rfl, rfl, rfl, rfl, rfl, rfl, rfl, rfl, rfl, rfl, rfl, rfl, rfl, rfl, rfl, rfl,
      headCauseCode_bytes⟩
  · intro lane pack
    have hlane : optionalPlace r.lane = lane := by
      cases hl : r.lane <;> simp only [lane, hl] <;> rfl
    have hpack : r.pack.getD 0 = pack := by
      cases hp : r.pack <;> simp only [pack, hp] <;> rfl
    rw [recordBytes_hide, hlane, hpack]
  · simp only [recordBytes_eq, Record.code, Record.level, Record.bodySize, Record.body, placeCode, boolCode_not,
      List.append_assoc, List.cons_append, List.nil_append, implies_true, and_self]

end Sys2Proof.Machine
